-- ==== Sys2Proof/Word.lean ====
section
/-! DEFINITION. The two word types of the LR35902: 8-bit bytes and 16-bit words (00_scope.md R10, R12). -/

namespace Sys2Proof

/-- An 8-bit register or a byte of memory (`u8`, R12). -/
abbrev Byte := BitVec 8

/-- A 16-bit register, register pair or address (`u16`, R12). -/
abbrev Word := BitVec 16

end Sys2Proof
end

