-- ==== Sys2Proof/Machine/Bits.lean ====
section
/-! DEFINITION. Slices, concatenation and extension of bytes and words (00_scope.md R12). -/

namespace Sys2Proof.Machine

/-- `hi:lo`, the high byte first. -/
def mkWord (hi lo : Byte) : Word := hi ++ lo

/-- `v[15:8]`. -/
def hiByte (v : Word) : Byte := v.extractLsb' 8 8

/-- `v[7:0]`. -/
def loByte (v : Word) : Byte := v.extractLsb' 0 8

/-- `sext_16(v8)`: the 16-bit sign extension of a byte. -/
def sext16 (v : Byte) : Word := v.signExtend 16

/-- `zext_16(v8)`: the byte as a 16-bit value. -/
def zext16 (v : Byte) : Word := v.setWidth 16

/-- The low nibble of a byte, as a number: `v & 0x0F`. -/
def lowNibble (v : Byte) : Nat := v.toNat % 16

/-- A bit as a number, 0 or 1. -/
def bitNat (p : Bool) : Nat := if p then 1 else 0

end Sys2Proof.Machine
end

