-- ==== Sys2Proof/Syntax.lean ====
section
/-! DEFINITION. The instructions: one constructor for each row of spec/opcode_table.json, and the operand
vocabulary the rows and the machine share (30_encoding.md R81 to R96). -/

namespace Sys2Proof

/-- The seven 8-bit registers an `r` field can name (30_encoding.md R84). Index 6 names the byte at HL and is no
register: every instruction has a row of its own for it. -/
inductive Reg8 where
  | b | c | d | e | h | l | a
  deriving DecidableEq, Repr

/-- The 16-bit pair field of LD rr,d16, INC rr, DEC rr and ADD HL,rr (30_encoding.md R85). -/
inductive Pair where
  | bc | de | hl | sp
  deriving DecidableEq, Repr

/-- The pair field of PUSH and POP (30_encoding.md R86). -/
inductive StackPair where
  | bc | de | hl | af
  deriving DecidableEq, Repr

/-- The condition field of JR cc, JP cc, CALL cc and RET cc (30_encoding.md R87). -/
inductive Cond where
  | nz | z | nc | c
  deriving DecidableEq, Repr

/-- The ALU operation field (30_encoding.md R88). -/
inductive AluOp where
  | add | adc | sub | sbc | and | xor | or | cp
  deriving DecidableEq, Repr

/-- The rotate field of CB opcodes 0x00 to 0x3F (30_encoding.md R89). -/
inductive RotOp where
  | rlc | rrc | rl | rr | sla | sra | swap | srl
  deriving DecidableEq, Repr

/-- The three operand forms of an 8-bit ALU instruction (41_alu8.md R110). -/
inductive Src8 where
  | reg (r : Reg8)
  | atHl
  | imm (n : Byte)
  deriving DecidableEq, Repr

/-- The two operand forms that are read and written in place (43_rotate_shift.md R170). -/
inductive Loc8 where
  | reg (r : Reg8)
  | atHl
  deriving DecidableEq, Repr

/-- The instructions, one constructor for each row of spec/opcode_table.json: first the rows
with operands, then the rows without, each in the table's order (Lean's compiler numbers at most 244 constructors with
fields). An argument is
an operand byte (`n`: d8 or a8; `e`: e8; `x`: STOP's ignored byte; `cbop`: the byte after the prefix), an operand
word (`nn`: d16 or a16), or a field of a CB word (`b`: bit number; `r`: register). -/
inductive Instr where
  /-- LD BC,d16 (R220) -/
  | ldBcD16 (nn : Word)
  /-- LD B,d8 (R202) -/
  | ldBD8 (n : Byte)
  /-- LD (a16),SP (R221) -/
  | ldAtA16Sp (nn : Word)
  /-- LD C,d8 (R202) -/
  | ldCD8 (n : Byte)
  /-- STOP (R282) -/
  | stop (x : Byte)
  /-- LD DE,d16 (R220) -/
  | ldDeD16 (nn : Word)
  /-- LD D,d8 (R202) -/
  | ldDD8 (n : Byte)
  /-- JR e8 (R255) -/
  | jrE8 (e : Byte)
  /-- LD E,d8 (R202) -/
  | ldED8 (n : Byte)
  /-- JR NZ,e8 (R256) -/
  | jrNzE8 (e : Byte)
  /-- LD HL,d16 (R220) -/
  | ldHlD16 (nn : Word)
  /-- LD H,d8 (R202) -/
  | ldHD8 (n : Byte)
  /-- JR Z,e8 (R256) -/
  | jrZE8 (e : Byte)
  /-- LD L,d8 (R202) -/
  | ldLD8 (n : Byte)
  /-- JR NC,e8 (R256) -/
  | jrNcE8 (e : Byte)
  /-- LD SP,d16 (R220) -/
  | ldSpD16 (nn : Word)
  /-- LD (HL),d8 (R205) -/
  | ldAtHlD8 (n : Byte)
  /-- JR C,e8 (R256) -/
  | jrCE8 (e : Byte)
  /-- LD A,d8 (R202) -/
  | ldAD8 (n : Byte)
  /-- JP NZ,a16 (R253) -/
  | jpNzA16 (nn : Word)
  /-- JP a16 (R252) -/
  | jpA16 (nn : Word)
  /-- CALL NZ,a16 (R258) -/
  | callNzA16 (nn : Word)
  /-- ADD A,d8 (R114) -/
  | addAD8 (n : Byte)
  /-- JP Z,a16 (R253) -/
  | jpZA16 (nn : Word)
  /-- PREFIX CB (R283) -/
  | prefixCb (cbop : Byte)
  /-- CALL Z,a16 (R258) -/
  | callZA16 (nn : Word)
  /-- CALL a16 (R257) -/
  | callA16 (nn : Word)
  /-- ADC A,d8 (R117) -/
  | adcAD8 (n : Byte)
  /-- JP NC,a16 (R253) -/
  | jpNcA16 (nn : Word)
  /-- CALL NC,a16 (R258) -/
  | callNcA16 (nn : Word)
  /-- SUB d8 (R120) -/
  | subD8 (n : Byte)
  /-- JP C,a16 (R253) -/
  | jpCA16 (nn : Word)
  /-- CALL C,a16 (R258) -/
  | callCA16 (nn : Word)
  /-- SBC A,d8 (R123) -/
  | sbcAD8 (n : Byte)
  /-- LDH (a8),A (R216) -/
  | ldhAtA8A (n : Byte)
  /-- AND d8 (R126) -/
  | andD8 (n : Byte)
  /-- ADD SP,e8 (R154) -/
  | addSpE8 (e : Byte)
  /-- LD (a16),A (R211) -/
  | ldAtA16A (nn : Word)
  /-- XOR d8 (R129) -/
  | xorD8 (n : Byte)
  /-- LDH A,(a8) (R217) -/
  | ldhAAtA8 (n : Byte)
  /-- OR d8 (R132) -/
  | orD8 (n : Byte)
  /-- LD HL,SP+e8 (R155) -/
  | ldHlSpE8 (e : Byte)
  /-- LD A,(a16) (R210) -/
  | ldAAtA16 (nn : Word)
  /-- CP d8 (R135) -/
  | cpD8 (n : Byte)
  /-- RLC r (R175) -/
  | rlcR (r : Reg8)
  /-- RRC r (R177) -/
  | rrcR (r : Reg8)
  /-- RL r (R179) -/
  | rlR (r : Reg8)
  /-- RR r (R181) -/
  | rrR (r : Reg8)
  /-- SLA r (R183) -/
  | slaR (r : Reg8)
  /-- SRA r (R185) -/
  | sraR (r : Reg8)
  /-- SWAP r (R187) -/
  | swapR (r : Reg8)
  /-- SRL r (R189) -/
  | srlR (r : Reg8)
  /-- BIT b,r (R191) -/
  | bitR (b : BitVec 3) (r : Reg8)
  /-- BIT b,(HL) (R192) -/
  | bitAtHl (b : BitVec 3)
  /-- RES b,r (R193) -/
  | resR (b : BitVec 3) (r : Reg8)
  /-- RES b,(HL) (R194) -/
  | resAtHl (b : BitVec 3)
  /-- SET b,r (R195) -/
  | setR (b : BitVec 3) (r : Reg8)
  /-- SET b,(HL) (R196) -/
  | setAtHl (b : BitVec 3)
  /-- NOP (R280) -/
  | nop
  /-- LD (BC),A (R208) -/
  | ldAtBcA
  /-- INC BC (R151) -/
  | incBc
  /-- INC B (R136) -/
  | incB
  /-- DEC B (R138) -/
  | decB
  /-- RLCA (R171) -/
  | rlca
  /-- ADD HL,BC (R153) -/
  | addHlBc
  /-- LD A,(BC) (R206) -/
  | ldAAtBc
  /-- DEC BC (R152) -/
  | decBc
  /-- INC C (R136) -/
  | incC
  /-- DEC C (R138) -/
  | decC
  /-- RRCA (R172) -/
  | rrca
  /-- LD (DE),A (R209) -/
  | ldAtDeA
  /-- INC DE (R151) -/
  | incDe
  /-- INC D (R136) -/
  | incD
  /-- DEC D (R138) -/
  | decD
  /-- RLA (R173) -/
  | rla
  /-- ADD HL,DE (R153) -/
  | addHlDe
  /-- LD A,(DE) (R207) -/
  | ldAAtDe
  /-- DEC DE (R152) -/
  | decDe
  /-- INC E (R136) -/
  | incE
  /-- DEC E (R138) -/
  | decE
  /-- RRA (R174) -/
  | rra
  /-- LD (HL+),A (R212) -/
  | ldAtHlIncA
  /-- INC HL (R151) -/
  | incHl
  /-- INC H (R136) -/
  | incH
  /-- DEC H (R138) -/
  | decH
  /-- DAA (R140) -/
  | daa
  /-- ADD HL,HL (R153) -/
  | addHlHl
  /-- LD A,(HL+) (R214) -/
  | ldAAtHlInc
  /-- DEC HL (R152) -/
  | decHl
  /-- INC L (R136) -/
  | incL
  /-- DEC L (R138) -/
  | decL
  /-- CPL (R141) -/
  | cpl
  /-- LD (HL-),A (R213) -/
  | ldAtHlDecA
  /-- INC SP (R151) -/
  | incSp
  /-- INC (HL) (R137) -/
  | incAtHl
  /-- DEC (HL) (R139) -/
  | decAtHl
  /-- SCF (R142) -/
  | scf
  /-- ADD HL,SP (R153) -/
  | addHlSp
  /-- LD A,(HL-) (R215) -/
  | ldAAtHlDec
  /-- DEC SP (R152) -/
  | decSp
  /-- INC A (R136) -/
  | incA
  /-- DEC A (R138) -/
  | decA
  /-- CCF (R143) -/
  | ccf
  /-- LD B,B (R201) -/
  | ldBB
  /-- LD B,C (R201) -/
  | ldBC
  /-- LD B,D (R201) -/
  | ldBD
  /-- LD B,E (R201) -/
  | ldBE
  /-- LD B,H (R201) -/
  | ldBH
  /-- LD B,L (R201) -/
  | ldBL
  /-- LD B,(HL) (R203) -/
  | ldBAtHl
  /-- LD B,A (R201) -/
  | ldBA
  /-- LD C,B (R201) -/
  | ldCB
  /-- LD C,C (R201) -/
  | ldCC
  /-- LD C,D (R201) -/
  | ldCD
  /-- LD C,E (R201) -/
  | ldCE
  /-- LD C,H (R201) -/
  | ldCH
  /-- LD C,L (R201) -/
  | ldCL
  /-- LD C,(HL) (R203) -/
  | ldCAtHl
  /-- LD C,A (R201) -/
  | ldCA
  /-- LD D,B (R201) -/
  | ldDB
  /-- LD D,C (R201) -/
  | ldDC
  /-- LD D,D (R201) -/
  | ldDD
  /-- LD D,E (R201) -/
  | ldDE
  /-- LD D,H (R201) -/
  | ldDH
  /-- LD D,L (R201) -/
  | ldDL
  /-- LD D,(HL) (R203) -/
  | ldDAtHl
  /-- LD D,A (R201) -/
  | ldDA
  /-- LD E,B (R201) -/
  | ldEB
  /-- LD E,C (R201) -/
  | ldEC
  /-- LD E,D (R201) -/
  | ldED
  /-- LD E,E (R201) -/
  | ldEE
  /-- LD E,H (R201) -/
  | ldEH
  /-- LD E,L (R201) -/
  | ldEL
  /-- LD E,(HL) (R203) -/
  | ldEAtHl
  /-- LD E,A (R201) -/
  | ldEA
  /-- LD H,B (R201) -/
  | ldHB
  /-- LD H,C (R201) -/
  | ldHC
  /-- LD H,D (R201) -/
  | ldHD
  /-- LD H,E (R201) -/
  | ldHE
  /-- LD H,H (R201) -/
  | ldHH
  /-- LD H,L (R201) -/
  | ldHL
  /-- LD H,(HL) (R203) -/
  | ldHAtHl
  /-- LD H,A (R201) -/
  | ldHA
  /-- LD L,B (R201) -/
  | ldLB
  /-- LD L,C (R201) -/
  | ldLC
  /-- LD L,D (R201) -/
  | ldLD
  /-- LD L,E (R201) -/
  | ldLE
  /-- LD L,H (R201) -/
  | ldLH
  /-- LD L,L (R201) -/
  | ldLL
  /-- LD L,(HL) (R203) -/
  | ldLAtHl
  /-- LD L,A (R201) -/
  | ldLA
  /-- LD (HL),B (R204) -/
  | ldAtHlB
  /-- LD (HL),C (R204) -/
  | ldAtHlC
  /-- LD (HL),D (R204) -/
  | ldAtHlD
  /-- LD (HL),E (R204) -/
  | ldAtHlE
  /-- LD (HL),H (R204) -/
  | ldAtHlH
  /-- LD (HL),L (R204) -/
  | ldAtHlL
  /-- HALT (R281) -/
  | halt
  /-- LD (HL),A (R204) -/
  | ldAtHlA
  /-- LD A,B (R201) -/
  | ldAB
  /-- LD A,C (R201) -/
  | ldAC
  /-- LD A,D (R201) -/
  | ldAD
  /-- LD A,E (R201) -/
  | ldAE
  /-- LD A,H (R201) -/
  | ldAH
  /-- LD A,L (R201) -/
  | ldAL
  /-- LD A,(HL) (R203) -/
  | ldAAtHl
  /-- LD A,A (R201) -/
  | ldAA
  /-- ADD A,B (R112) -/
  | addAB
  /-- ADD A,C (R112) -/
  | addAC
  /-- ADD A,D (R112) -/
  | addAD
  /-- ADD A,E (R112) -/
  | addAE
  /-- ADD A,H (R112) -/
  | addAH
  /-- ADD A,L (R112) -/
  | addAL
  /-- ADD A,(HL) (R113) -/
  | addAAtHl
  /-- ADD A,A (R112) -/
  | addAA
  /-- ADC A,B (R115) -/
  | adcAB
  /-- ADC A,C (R115) -/
  | adcAC
  /-- ADC A,D (R115) -/
  | adcAD
  /-- ADC A,E (R115) -/
  | adcAE
  /-- ADC A,H (R115) -/
  | adcAH
  /-- ADC A,L (R115) -/
  | adcAL
  /-- ADC A,(HL) (R116) -/
  | adcAAtHl
  /-- ADC A,A (R115) -/
  | adcAA
  /-- SUB B (R118) -/
  | subB
  /-- SUB C (R118) -/
  | subC
  /-- SUB D (R118) -/
  | subD
  /-- SUB E (R118) -/
  | subE
  /-- SUB H (R118) -/
  | subH
  /-- SUB L (R118) -/
  | subL
  /-- SUB (HL) (R119) -/
  | subAtHl
  /-- SUB A (R118) -/
  | subA
  /-- SBC A,B (R121) -/
  | sbcAB
  /-- SBC A,C (R121) -/
  | sbcAC
  /-- SBC A,D (R121) -/
  | sbcAD
  /-- SBC A,E (R121) -/
  | sbcAE
  /-- SBC A,H (R121) -/
  | sbcAH
  /-- SBC A,L (R121) -/
  | sbcAL
  /-- SBC A,(HL) (R122) -/
  | sbcAAtHl
  /-- SBC A,A (R121) -/
  | sbcAA
  /-- AND B (R124) -/
  | andB
  /-- AND C (R124) -/
  | andC
  /-- AND D (R124) -/
  | andD
  /-- AND E (R124) -/
  | andE
  /-- AND H (R124) -/
  | andH
  /-- AND L (R124) -/
  | andL
  /-- AND (HL) (R125) -/
  | andAtHl
  /-- AND A (R124) -/
  | andA
  /-- XOR B (R127) -/
  | xorB
  /-- XOR C (R127) -/
  | xorC
  /-- XOR D (R127) -/
  | xorD
  /-- XOR E (R127) -/
  | xorE
  /-- XOR H (R127) -/
  | xorH
  /-- XOR L (R127) -/
  | xorL
  /-- XOR (HL) (R128) -/
  | xorAtHl
  /-- XOR A (R127) -/
  | xorA
  /-- OR B (R130) -/
  | orB
  /-- OR C (R130) -/
  | orC
  /-- OR D (R130) -/
  | orD
  /-- OR E (R130) -/
  | orE
  /-- OR H (R130) -/
  | orH
  /-- OR L (R130) -/
  | orL
  /-- OR (HL) (R131) -/
  | orAtHl
  /-- OR A (R130) -/
  | orA
  /-- CP B (R133) -/
  | cpB
  /-- CP C (R133) -/
  | cpC
  /-- CP D (R133) -/
  | cpD
  /-- CP E (R133) -/
  | cpE
  /-- CP H (R133) -/
  | cpH
  /-- CP L (R133) -/
  | cpL
  /-- CP (HL) (R134) -/
  | cpAtHl
  /-- CP A (R133) -/
  | cpA
  /-- RET NZ (R260) -/
  | retNz
  /-- POP BC (R243) -/
  | popBc
  /-- PUSH BC (R241) -/
  | pushBc
  /-- RST 00H (R263) -/
  | rst00
  /-- RET Z (R260) -/
  | retZ
  /-- RET (R259) -/
  | ret
  /-- RST 08H (R263) -/
  | rst08
  /-- RET NC (R260) -/
  | retNc
  /-- POP DE (R243) -/
  | popDe
  /-- ILLEGAL_D3 (R286) -/
  | illegalD3
  /-- PUSH DE (R241) -/
  | pushDe
  /-- RST 10H (R263) -/
  | rst10
  /-- RET C (R260) -/
  | retC
  /-- RETI (R262) -/
  | reti
  /-- ILLEGAL_DB (R286) -/
  | illegalDB
  /-- ILLEGAL_DD (R286) -/
  | illegalDD
  /-- RST 18H (R263) -/
  | rst18
  /-- POP HL (R243) -/
  | popHl
  /-- LD (C),A (R218) -/
  | ldAtCA
  /-- ILLEGAL_E3 (R286) -/
  | illegalE3
  /-- ILLEGAL_E4 (R286) -/
  | illegalE4
  /-- PUSH HL (R241) -/
  | pushHl
  /-- RST 20H (R263) -/
  | rst20
  /-- JP HL (R254) -/
  | jpHl
  /-- ILLEGAL_EB (R286) -/
  | illegalEB
  /-- ILLEGAL_EC (R286) -/
  | illegalEC
  /-- ILLEGAL_ED (R286) -/
  | illegalED
  /-- RST 28H (R263) -/
  | rst28
  /-- POP AF (R244) -/
  | popAf
  /-- LD A,(C) (R219) -/
  | ldAAtC
  /-- DI (R284) -/
  | di
  /-- ILLEGAL_F4 (R286) -/
  | illegalF4
  /-- PUSH AF (R242) -/
  | pushAf
  /-- RST 30H (R263) -/
  | rst30
  /-- LD SP,HL (R222) -/
  | ldSpHl
  /-- EI (R285) -/
  | ei
  /-- ILLEGAL_FC (R286) -/
  | illegalFC
  /-- ILLEGAL_FD (R286) -/
  | illegalFD
  /-- RST 38H (R263) -/
  | rst38
  /-- RLC (HL) (R176) -/
  | rlcAtHl
  /-- RRC (HL) (R178) -/
  | rrcAtHl
  /-- RL (HL) (R180) -/
  | rlAtHl
  /-- RR (HL) (R182) -/
  | rrAtHl
  /-- SLA (HL) (R184) -/
  | slaAtHl
  /-- SRA (HL) (R186) -/
  | sraAtHl
  /-- SWAP (HL) (R188) -/
  | swapAtHl
  /-- SRL (HL) (R190) -/
  | srlAtHl
  deriving DecidableEq, Repr

end Sys2Proof
end

