-- ==== Sys2Proof/Rows.lean ====
section
/-! DEFINITION. The rows of one rule, indexed by their operands: `Row.ldRR d r` is the row `LD d,r`. A rule of the
spec speaks of a family (`LD r,r'`, `ADD A,r`, `JP cc,a16`); these functions name its rows by the operand fields of
30_encoding.md R84 to R89, so that a statement about the rule is one statement about all its rows. -/

namespace Sys2Proof.Row

/-- `LD r,r'` (45_load.md R201). -/
def ldRR : Reg8 → Reg8 → Instr
  | .b, .b => .ldBB
  | .b, .c => .ldBC
  | .b, .d => .ldBD
  | .b, .e => .ldBE
  | .b, .h => .ldBH
  | .b, .l => .ldBL
  | .b, .a => .ldBA
  | .c, .b => .ldCB
  | .c, .c => .ldCC
  | .c, .d => .ldCD
  | .c, .e => .ldCE
  | .c, .h => .ldCH
  | .c, .l => .ldCL
  | .c, .a => .ldCA
  | .d, .b => .ldDB
  | .d, .c => .ldDC
  | .d, .d => .ldDD
  | .d, .e => .ldDE
  | .d, .h => .ldDH
  | .d, .l => .ldDL
  | .d, .a => .ldDA
  | .e, .b => .ldEB
  | .e, .c => .ldEC
  | .e, .d => .ldED
  | .e, .e => .ldEE
  | .e, .h => .ldEH
  | .e, .l => .ldEL
  | .e, .a => .ldEA
  | .h, .b => .ldHB
  | .h, .c => .ldHC
  | .h, .d => .ldHD
  | .h, .e => .ldHE
  | .h, .h => .ldHH
  | .h, .l => .ldHL
  | .h, .a => .ldHA
  | .l, .b => .ldLB
  | .l, .c => .ldLC
  | .l, .d => .ldLD
  | .l, .e => .ldLE
  | .l, .h => .ldLH
  | .l, .l => .ldLL
  | .l, .a => .ldLA
  | .a, .b => .ldAB
  | .a, .c => .ldAC
  | .a, .d => .ldAD
  | .a, .e => .ldAE
  | .a, .h => .ldAH
  | .a, .l => .ldAL
  | .a, .a => .ldAA

/-- `LD r,d8` (R202). -/
def ldRD8 : Reg8 → Byte → Instr
  | .b, n => .ldBD8 n
  | .c, n => .ldCD8 n
  | .d, n => .ldDD8 n
  | .e, n => .ldED8 n
  | .h, n => .ldHD8 n
  | .l, n => .ldLD8 n
  | .a, n => .ldAD8 n

/-- `LD r,(HL)` (R203). -/
def ldRAtHl : Reg8 → Instr
  | .b => .ldBAtHl
  | .c => .ldCAtHl
  | .d => .ldDAtHl
  | .e => .ldEAtHl
  | .h => .ldHAtHl
  | .l => .ldLAtHl
  | .a => .ldAAtHl

/-- `LD (HL),r` (R204). -/
def ldAtHlR : Reg8 → Instr
  | .b => .ldAtHlB
  | .c => .ldAtHlC
  | .d => .ldAtHlD
  | .e => .ldAtHlE
  | .h => .ldAtHlH
  | .l => .ldAtHlL
  | .a => .ldAtHlA

/-- `INC r` (41_alu8.md R136) and `INC (HL)` (R137). -/
def inc8 : Loc8 → Instr
  | .reg .b => .incB
  | .reg .c => .incC
  | .reg .d => .incD
  | .reg .e => .incE
  | .reg .h => .incH
  | .reg .l => .incL
  | .reg .a => .incA
  | .atHl => .incAtHl

/-- `DEC r` (R138) and `DEC (HL)` (R139). -/
def dec8 : Loc8 → Instr
  | .reg .b => .decB
  | .reg .c => .decC
  | .reg .d => .decD
  | .reg .e => .decE
  | .reg .h => .decH
  | .reg .l => .decL
  | .reg .a => .decA
  | .atHl => .decAtHl

/-- The 72 rows of the 8-bit ALU: operation `y`, operand register, (HL) or d8 (41_alu8.md R110, 30_encoding.md R88). -/
def alu : AluOp → Src8 → Instr
  | .add, .reg .b => .addAB
  | .add, .reg .c => .addAC
  | .add, .reg .d => .addAD
  | .add, .reg .e => .addAE
  | .add, .reg .h => .addAH
  | .add, .reg .l => .addAL
  | .add, .reg .a => .addAA
  | .adc, .reg .b => .adcAB
  | .adc, .reg .c => .adcAC
  | .adc, .reg .d => .adcAD
  | .adc, .reg .e => .adcAE
  | .adc, .reg .h => .adcAH
  | .adc, .reg .l => .adcAL
  | .adc, .reg .a => .adcAA
  | .sub, .reg .b => .subB
  | .sub, .reg .c => .subC
  | .sub, .reg .d => .subD
  | .sub, .reg .e => .subE
  | .sub, .reg .h => .subH
  | .sub, .reg .l => .subL
  | .sub, .reg .a => .subA
  | .sbc, .reg .b => .sbcAB
  | .sbc, .reg .c => .sbcAC
  | .sbc, .reg .d => .sbcAD
  | .sbc, .reg .e => .sbcAE
  | .sbc, .reg .h => .sbcAH
  | .sbc, .reg .l => .sbcAL
  | .sbc, .reg .a => .sbcAA
  | .and, .reg .b => .andB
  | .and, .reg .c => .andC
  | .and, .reg .d => .andD
  | .and, .reg .e => .andE
  | .and, .reg .h => .andH
  | .and, .reg .l => .andL
  | .and, .reg .a => .andA
  | .xor, .reg .b => .xorB
  | .xor, .reg .c => .xorC
  | .xor, .reg .d => .xorD
  | .xor, .reg .e => .xorE
  | .xor, .reg .h => .xorH
  | .xor, .reg .l => .xorL
  | .xor, .reg .a => .xorA
  | .or, .reg .b => .orB
  | .or, .reg .c => .orC
  | .or, .reg .d => .orD
  | .or, .reg .e => .orE
  | .or, .reg .h => .orH
  | .or, .reg .l => .orL
  | .or, .reg .a => .orA
  | .cp, .reg .b => .cpB
  | .cp, .reg .c => .cpC
  | .cp, .reg .d => .cpD
  | .cp, .reg .e => .cpE
  | .cp, .reg .h => .cpH
  | .cp, .reg .l => .cpL
  | .cp, .reg .a => .cpA
  | .add, .atHl => .addAAtHl
  | .adc, .atHl => .adcAAtHl
  | .sub, .atHl => .subAtHl
  | .sbc, .atHl => .sbcAAtHl
  | .and, .atHl => .andAtHl
  | .xor, .atHl => .xorAtHl
  | .or, .atHl => .orAtHl
  | .cp, .atHl => .cpAtHl
  | .add, .imm n => .addAD8 n
  | .adc, .imm n => .adcAD8 n
  | .sub, .imm n => .subD8 n
  | .sbc, .imm n => .sbcAD8 n
  | .and, .imm n => .andD8 n
  | .xor, .imm n => .xorD8 n
  | .or, .imm n => .orD8 n
  | .cp, .imm n => .cpD8 n

/-- `LD rr,d16` (R220). -/
def ldPairD16 : Pair → Word → Instr
  | .bc, nn => .ldBcD16 nn
  | .de, nn => .ldDeD16 nn
  | .hl, nn => .ldHlD16 nn
  | .sp, nn => .ldSpD16 nn

/-- `INC rr` (42_alu16.md R151). -/
def incPair : Pair → Instr
  | .bc => .incBc
  | .de => .incDe
  | .hl => .incHl
  | .sp => .incSp

/-- `DEC rr` (R152). -/
def decPair : Pair → Instr
  | .bc => .decBc
  | .de => .decDe
  | .hl => .decHl
  | .sp => .decSp

/-- `ADD HL,rr` (R153). -/
def addHlPair : Pair → Instr
  | .bc => .addHlBc
  | .de => .addHlDe
  | .hl => .addHlHl
  | .sp => .addHlSp

/-- `PUSH rr` and `PUSH AF` (46_stack.md R241, R242). -/
def push : StackPair → Instr
  | .bc => .pushBc
  | .de => .pushDe
  | .hl => .pushHl
  | .af => .pushAf

/-- `POP rr` and `POP AF` (R243, R244). -/
def pop : StackPair → Instr
  | .bc => .popBc
  | .de => .popDe
  | .hl => .popHl
  | .af => .popAf

/-- `JR cc,e8` (47_control.md R256). -/
def jrCc : Cond → Byte → Instr
  | .nz, e => .jrNzE8 e
  | .z, e => .jrZE8 e
  | .nc, e => .jrNcE8 e
  | .c, e => .jrCE8 e

/-- `JP cc,a16` (R253). -/
def jpCc : Cond → Word → Instr
  | .nz, nn => .jpNzA16 nn
  | .z, nn => .jpZA16 nn
  | .nc, nn => .jpNcA16 nn
  | .c, nn => .jpCA16 nn

/-- `CALL cc,a16` (R258). -/
def callCc : Cond → Word → Instr
  | .nz, nn => .callNzA16 nn
  | .z, nn => .callZA16 nn
  | .nc, nn => .callNcA16 nn
  | .c, nn => .callCA16 nn

/-- `RET cc` (R260). -/
def retCc : Cond → Instr
  | .nz => .retNz
  | .z => .retZ
  | .nc => .retNc
  | .c => .retC

/-- The CB rotates, shifts and SWAP (43_rotate_shift.md R175 to R190). -/
def rot : RotOp → Loc8 → Instr
  | .rlc, .reg r => .rlcR r
  | .rrc, .reg r => .rrcR r
  | .rl, .reg r => .rlR r
  | .rr, .reg r => .rrR r
  | .sla, .reg r => .slaR r
  | .sra, .reg r => .sraR r
  | .swap, .reg r => .swapR r
  | .srl, .reg r => .srlR r
  | .rlc, .atHl => .rlcAtHl
  | .rrc, .atHl => .rrcAtHl
  | .rl, .atHl => .rlAtHl
  | .rr, .atHl => .rrAtHl
  | .sla, .atHl => .slaAtHl
  | .sra, .atHl => .sraAtHl
  | .swap, .atHl => .swapAtHl
  | .srl, .atHl => .srlAtHl

/-- `BIT b,r` and `BIT b,(HL)` (44_bit.md). -/
def bit : BitVec 3 → Loc8 → Instr
  | b, .reg r => .bitR b r
  | b, .atHl => .bitAtHl b

/-- `RES b,r` and `RES b,(HL)` (44_bit.md). -/
def res : BitVec 3 → Loc8 → Instr
  | b, .reg r => .resR b r
  | b, .atHl => .resAtHl b

/-- `SET b,r` and `SET b,(HL)` (44_bit.md). -/
def set : BitVec 3 → Loc8 → Instr
  | b, .reg r => .setR b r
  | b, .atHl => .setAtHl b

/-- The eight `RST` rows, each with its target (47_control.md R263, 30_encoding.md R89). -/
def rst : List (Instr × Word) :=
  [(.rst00, 0x00), (.rst08, 0x08), (.rst10, 0x10), (.rst18, 0x18), (.rst20, 0x20), (.rst28, 0x28), (.rst30, 0x30), (.rst38, 0x38)]

/-- The eleven illegal rows, each with its byte (30_encoding.md R101). -/
def illegal : List (Instr × Byte) :=
  [(.illegalD3, 0xD3), (.illegalDB, 0xDB), (.illegalDD, 0xDD), (.illegalE3, 0xE3), (.illegalE4, 0xE4), (.illegalEB, 0xEB),
   (.illegalEC, 0xEC), (.illegalED, 0xED), (.illegalF4, 0xF4), (.illegalFC, 0xFC), (.illegalFD, 0xFD)]

end Sys2Proof.Row
end

