-- ==== Sys2Proof/WellFormed.lean ====
section
/-! DEFINITION. Which terms of Instr are instructions a decoder may answer (30_encoding.md R92, 48_system.md R283). -/

namespace Sys2Proof

/-- Every row is an instruction with every value its operands can take, but one: "The CB prefix byte 0xCB is not an
instruction of its own" (48_system.md R283). Its two bytes are those of the CB instruction the second byte selects,
which is what decodes (log entry 6). The operand types shut out every other ill-formed term: a register field is a
`Reg8` (index 6 is the (HL) row), a bit number has three bits. -/
def Instr.wellFormed : Instr → Bool
  | .prefixCb _ => false
  | _ => true

end Sys2Proof
end

