-- ==== Sys2Proof/Decode.lean ====
section
/-! DEFINITION. The decoder, total on any bytes and rejecting by name, and the encoder, both written from the opcode
maps of 30_encoding.md (R82 to R96). -/

namespace Sys2Proof

open Machine (mkWord hiByte loByte)

/-! ### Fields -/

/-- `R8` indices: B C D E H L (HL) A (R84). -/
def locOfIndex (z : BitVec 3) : Loc8 :=
  match z.toNat with
  | 0 => .reg .b
  | 1 => .reg .c
  | 2 => .reg .d
  | 3 => .reg .e
  | 4 => .reg .h
  | 5 => .reg .l
  | 6 => .atHl
  | _ => .reg .a

/-- The rotate field `y` (R89). -/
def rotOfIndex (y : BitVec 3) : RotOp :=
  match y.toNat with
  | 0 => .rlc
  | 1 => .rrc
  | 2 => .rl
  | 3 => .rr
  | 4 => .sla
  | 5 => .sra
  | 6 => .swap
  | _ => .srl

/-- `x = op[7:6]` (R82). -/
def fieldX (op : Byte) : BitVec 2 := op.extractLsb' 6 2

/-- `y = op[5:3]` (R82). -/
def fieldY (op : Byte) : BitVec 3 := op.extractLsb' 3 3

/-- `z = op[2:0]` (R82). -/
def fieldZ (op : Byte) : BitVec 3 := op.extractLsb' 0 3

/-! ### The decode tables -/

/-- The CB table: the group by `x`, the operation or bit number by `y`, the operand by `z` (R83, R96). -/
def decodeCb (cbop : Byte) : Instr :=
  match (fieldX cbop).toNat with
  | 0 => Row.rot (rotOfIndex (fieldY cbop)) (locOfIndex (fieldZ cbop))
  | 1 => Row.bit (fieldY cbop) (locOfIndex (fieldZ cbop))
  | 2 => Row.res (fieldY cbop) (locOfIndex (fieldZ cbop))
  | _ => Row.set (fieldY cbop) (locOfIndex (fieldZ cbop))

/-- What a main-table byte selects, by its format (R81): an instruction of one byte, one with an operand byte, one
with an operand word, or the CB prefix. -/
inductive Form where
  | op (i : Instr)
  | byte (mk : Byte → Instr)
  | word (mk : Word → Instr)
  | cb

/-- How many bytes follow the first one (R80). -/
def Form.operandBytes : Form → Nat
  | .op _ => 0
  | .byte _ => 1
  | .word _ => 2
  | .cb => 1

/-- Row 0x of the main opcode map (R95). -/
def mainRow0 : List Form :=
  [.op .nop, .word .ldBcD16, .op .ldAtBcA, .op .incBc,
   .op .incB, .op .decB, .byte .ldBD8, .op .rlca,
   .word .ldAtA16Sp, .op .addHlBc, .op .ldAAtBc, .op .decBc,
   .op .incC, .op .decC, .byte .ldCD8, .op .rrca]

/-- Row 1x of the main opcode map (R95). -/
def mainRow1 : List Form :=
  [.byte .stop, .word .ldDeD16, .op .ldAtDeA, .op .incDe,
   .op .incD, .op .decD, .byte .ldDD8, .op .rla,
   .byte .jrE8, .op .addHlDe, .op .ldAAtDe, .op .decDe,
   .op .incE, .op .decE, .byte .ldED8, .op .rra]

/-- Row 2x of the main opcode map (R95). -/
def mainRow2 : List Form :=
  [.byte .jrNzE8, .word .ldHlD16, .op .ldAtHlIncA, .op .incHl,
   .op .incH, .op .decH, .byte .ldHD8, .op .daa,
   .byte .jrZE8, .op .addHlHl, .op .ldAAtHlInc, .op .decHl,
   .op .incL, .op .decL, .byte .ldLD8, .op .cpl]

/-- Row 3x of the main opcode map (R95). -/
def mainRow3 : List Form :=
  [.byte .jrNcE8, .word .ldSpD16, .op .ldAtHlDecA, .op .incSp,
   .op .incAtHl, .op .decAtHl, .byte .ldAtHlD8, .op .scf,
   .byte .jrCE8, .op .addHlSp, .op .ldAAtHlDec, .op .decSp,
   .op .incA, .op .decA, .byte .ldAD8, .op .ccf]

/-- Row 4x of the main opcode map (R95). -/
def mainRow4 : List Form :=
  [.op .ldBB, .op .ldBC, .op .ldBD, .op .ldBE,
   .op .ldBH, .op .ldBL, .op .ldBAtHl, .op .ldBA,
   .op .ldCB, .op .ldCC, .op .ldCD, .op .ldCE,
   .op .ldCH, .op .ldCL, .op .ldCAtHl, .op .ldCA]

/-- Row 5x of the main opcode map (R95). -/
def mainRow5 : List Form :=
  [.op .ldDB, .op .ldDC, .op .ldDD, .op .ldDE,
   .op .ldDH, .op .ldDL, .op .ldDAtHl, .op .ldDA,
   .op .ldEB, .op .ldEC, .op .ldED, .op .ldEE,
   .op .ldEH, .op .ldEL, .op .ldEAtHl, .op .ldEA]

/-- Row 6x of the main opcode map (R95). -/
def mainRow6 : List Form :=
  [.op .ldHB, .op .ldHC, .op .ldHD, .op .ldHE,
   .op .ldHH, .op .ldHL, .op .ldHAtHl, .op .ldHA,
   .op .ldLB, .op .ldLC, .op .ldLD, .op .ldLE,
   .op .ldLH, .op .ldLL, .op .ldLAtHl, .op .ldLA]

/-- Row 7x of the main opcode map (R95). -/
def mainRow7 : List Form :=
  [.op .ldAtHlB, .op .ldAtHlC, .op .ldAtHlD, .op .ldAtHlE,
   .op .ldAtHlH, .op .ldAtHlL, .op .halt, .op .ldAtHlA,
   .op .ldAB, .op .ldAC, .op .ldAD, .op .ldAE,
   .op .ldAH, .op .ldAL, .op .ldAAtHl, .op .ldAA]

/-- Row 8x of the main opcode map (R95). -/
def mainRow8 : List Form :=
  [.op .addAB, .op .addAC, .op .addAD, .op .addAE,
   .op .addAH, .op .addAL, .op .addAAtHl, .op .addAA,
   .op .adcAB, .op .adcAC, .op .adcAD, .op .adcAE,
   .op .adcAH, .op .adcAL, .op .adcAAtHl, .op .adcAA]

/-- Row 9x of the main opcode map (R95). -/
def mainRow9 : List Form :=
  [.op .subB, .op .subC, .op .subD, .op .subE,
   .op .subH, .op .subL, .op .subAtHl, .op .subA,
   .op .sbcAB, .op .sbcAC, .op .sbcAD, .op .sbcAE,
   .op .sbcAH, .op .sbcAL, .op .sbcAAtHl, .op .sbcAA]

/-- Row Ax of the main opcode map (R95). -/
def mainRowA : List Form :=
  [.op .andB, .op .andC, .op .andD, .op .andE,
   .op .andH, .op .andL, .op .andAtHl, .op .andA,
   .op .xorB, .op .xorC, .op .xorD, .op .xorE,
   .op .xorH, .op .xorL, .op .xorAtHl, .op .xorA]

/-- Row Bx of the main opcode map (R95). -/
def mainRowB : List Form :=
  [.op .orB, .op .orC, .op .orD, .op .orE,
   .op .orH, .op .orL, .op .orAtHl, .op .orA,
   .op .cpB, .op .cpC, .op .cpD, .op .cpE,
   .op .cpH, .op .cpL, .op .cpAtHl, .op .cpA]

/-- Row Cx of the main opcode map (R95). -/
def mainRowC : List Form :=
  [.op .retNz, .op .popBc, .word .jpNzA16, .word .jpA16,
   .word .callNzA16, .op .pushBc, .byte .addAD8, .op .rst00,
   .op .retZ, .op .ret, .word .jpZA16, .cb,
   .word .callZA16, .word .callA16, .byte .adcAD8, .op .rst08]

/-- Row Dx of the main opcode map (R95). -/
def mainRowD : List Form :=
  [.op .retNc, .op .popDe, .word .jpNcA16, .op .illegalD3,
   .word .callNcA16, .op .pushDe, .byte .subD8, .op .rst10,
   .op .retC, .op .reti, .word .jpCA16, .op .illegalDB,
   .word .callCA16, .op .illegalDD, .byte .sbcAD8, .op .rst18]

/-- Row Ex of the main opcode map (R95). -/
def mainRowE : List Form :=
  [.byte .ldhAtA8A, .op .popHl, .op .ldAtCA, .op .illegalE3,
   .op .illegalE4, .op .pushHl, .byte .andD8, .op .rst20,
   .byte .addSpE8, .op .jpHl, .word .ldAtA16A, .op .illegalEB,
   .op .illegalEC, .op .illegalED, .byte .xorD8, .op .rst28]

/-- Row Fx of the main opcode map (R95). -/
def mainRowF : List Form :=
  [.byte .ldhAAtA8, .op .popAf, .op .ldAAtC, .op .di,
   .op .illegalF4, .op .pushAf, .byte .orD8, .op .rst30,
   .byte .ldHlSpE8, .op .ldSpHl, .word .ldAAtA16, .op .ei,
   .op .illegalFC, .op .illegalFD, .byte .cpD8, .op .rst38]

/-- The main opcode map (R95): 256 entries, none absent. -/
def mainTable : List Form :=
  mainRow0 ++ mainRow1 ++ mainRow2 ++ mainRow3 ++ mainRow4 ++ mainRow5 ++ mainRow6 ++ mainRow7 ++
    mainRow8 ++ mainRow9 ++ mainRowA ++ mainRowB ++ mainRowC ++ mainRowD ++ mainRowE ++ mainRowF

/-- The entry of a main-table byte. -/
def formOf (op : Byte) : Option Form := mainTable[op.toNat]?

/-! ### The decoder -/

/-- Why a byte list does not decode. -/
inductive DecodeError where
  /-- The list ends before the instruction does. -/
  | truncated
  /-- A byte the main table has no entry for: unreachable, the table is complete (R92, 60_exceptions.md R301). -/
  | unknownOpcode (op : Byte)
  deriving DecidableEq, Repr

/-- Reads one instruction from the front of a byte list, and leaves the rest (R81, R90, R91). -/
def decode : List Byte → Except DecodeError (Instr × List Byte)
  | [] => .error .truncated
  | op :: rest =>
    match formOf op, rest with
    | some (.op i), rest => .ok (i, rest)
    | some (.byte mk), n :: rest => .ok (mk n, rest)
    | some (.word mk), lo :: hi :: rest => .ok (mk (mkWord hi lo), rest)
    | some .cb, cbop :: rest => .ok (decodeCb cbop, rest)
    | none, _ => .error (.unknownOpcode op)
    | some (.byte _), [] => .error .truncated
    | some (.word _), _ => .error .truncated
    | some .cb, [] => .error .truncated

/-! ### The encoder -/

/-- The index of a register in an `r` field (R84). -/
def regIndex : Reg8 → BitVec 3
  | .b => 0
  | .c => 1
  | .d => 2
  | .e => 3
  | .h => 4
  | .l => 5
  | .a => 7

/-- An opcode byte from its fields `x`, `y`, `z` (R82). -/
def fieldsByte (x : BitVec 2) (y z : BitVec 3) : Byte := x ++ y ++ z

/-- The bytes of an instruction, the first at the lowest address (R81). -/
def encode : Instr → List Byte
  | .nop => [0x00]
  | .ldBcD16 nn => [0x01, loByte nn, hiByte nn]
  | .ldAtBcA => [0x02]
  | .incBc => [0x03]
  | .incB => [0x04]
  | .decB => [0x05]
  | .ldBD8 n => [0x06, n]
  | .rlca => [0x07]
  | .ldAtA16Sp nn => [0x08, loByte nn, hiByte nn]
  | .addHlBc => [0x09]
  | .ldAAtBc => [0x0A]
  | .decBc => [0x0B]
  | .incC => [0x0C]
  | .decC => [0x0D]
  | .ldCD8 n => [0x0E, n]
  | .rrca => [0x0F]
  | .stop x => [0x10, x]
  | .ldDeD16 nn => [0x11, loByte nn, hiByte nn]
  | .ldAtDeA => [0x12]
  | .incDe => [0x13]
  | .incD => [0x14]
  | .decD => [0x15]
  | .ldDD8 n => [0x16, n]
  | .rla => [0x17]
  | .jrE8 e => [0x18, e]
  | .addHlDe => [0x19]
  | .ldAAtDe => [0x1A]
  | .decDe => [0x1B]
  | .incE => [0x1C]
  | .decE => [0x1D]
  | .ldED8 n => [0x1E, n]
  | .rra => [0x1F]
  | .jrNzE8 e => [0x20, e]
  | .ldHlD16 nn => [0x21, loByte nn, hiByte nn]
  | .ldAtHlIncA => [0x22]
  | .incHl => [0x23]
  | .incH => [0x24]
  | .decH => [0x25]
  | .ldHD8 n => [0x26, n]
  | .daa => [0x27]
  | .jrZE8 e => [0x28, e]
  | .addHlHl => [0x29]
  | .ldAAtHlInc => [0x2A]
  | .decHl => [0x2B]
  | .incL => [0x2C]
  | .decL => [0x2D]
  | .ldLD8 n => [0x2E, n]
  | .cpl => [0x2F]
  | .jrNcE8 e => [0x30, e]
  | .ldSpD16 nn => [0x31, loByte nn, hiByte nn]
  | .ldAtHlDecA => [0x32]
  | .incSp => [0x33]
  | .incAtHl => [0x34]
  | .decAtHl => [0x35]
  | .ldAtHlD8 n => [0x36, n]
  | .scf => [0x37]
  | .jrCE8 e => [0x38, e]
  | .addHlSp => [0x39]
  | .ldAAtHlDec => [0x3A]
  | .decSp => [0x3B]
  | .incA => [0x3C]
  | .decA => [0x3D]
  | .ldAD8 n => [0x3E, n]
  | .ccf => [0x3F]
  | .ldBB => [0x40]
  | .ldBC => [0x41]
  | .ldBD => [0x42]
  | .ldBE => [0x43]
  | .ldBH => [0x44]
  | .ldBL => [0x45]
  | .ldBAtHl => [0x46]
  | .ldBA => [0x47]
  | .ldCB => [0x48]
  | .ldCC => [0x49]
  | .ldCD => [0x4A]
  | .ldCE => [0x4B]
  | .ldCH => [0x4C]
  | .ldCL => [0x4D]
  | .ldCAtHl => [0x4E]
  | .ldCA => [0x4F]
  | .ldDB => [0x50]
  | .ldDC => [0x51]
  | .ldDD => [0x52]
  | .ldDE => [0x53]
  | .ldDH => [0x54]
  | .ldDL => [0x55]
  | .ldDAtHl => [0x56]
  | .ldDA => [0x57]
  | .ldEB => [0x58]
  | .ldEC => [0x59]
  | .ldED => [0x5A]
  | .ldEE => [0x5B]
  | .ldEH => [0x5C]
  | .ldEL => [0x5D]
  | .ldEAtHl => [0x5E]
  | .ldEA => [0x5F]
  | .ldHB => [0x60]
  | .ldHC => [0x61]
  | .ldHD => [0x62]
  | .ldHE => [0x63]
  | .ldHH => [0x64]
  | .ldHL => [0x65]
  | .ldHAtHl => [0x66]
  | .ldHA => [0x67]
  | .ldLB => [0x68]
  | .ldLC => [0x69]
  | .ldLD => [0x6A]
  | .ldLE => [0x6B]
  | .ldLH => [0x6C]
  | .ldLL => [0x6D]
  | .ldLAtHl => [0x6E]
  | .ldLA => [0x6F]
  | .ldAtHlB => [0x70]
  | .ldAtHlC => [0x71]
  | .ldAtHlD => [0x72]
  | .ldAtHlE => [0x73]
  | .ldAtHlH => [0x74]
  | .ldAtHlL => [0x75]
  | .halt => [0x76]
  | .ldAtHlA => [0x77]
  | .ldAB => [0x78]
  | .ldAC => [0x79]
  | .ldAD => [0x7A]
  | .ldAE => [0x7B]
  | .ldAH => [0x7C]
  | .ldAL => [0x7D]
  | .ldAAtHl => [0x7E]
  | .ldAA => [0x7F]
  | .addAB => [0x80]
  | .addAC => [0x81]
  | .addAD => [0x82]
  | .addAE => [0x83]
  | .addAH => [0x84]
  | .addAL => [0x85]
  | .addAAtHl => [0x86]
  | .addAA => [0x87]
  | .adcAB => [0x88]
  | .adcAC => [0x89]
  | .adcAD => [0x8A]
  | .adcAE => [0x8B]
  | .adcAH => [0x8C]
  | .adcAL => [0x8D]
  | .adcAAtHl => [0x8E]
  | .adcAA => [0x8F]
  | .subB => [0x90]
  | .subC => [0x91]
  | .subD => [0x92]
  | .subE => [0x93]
  | .subH => [0x94]
  | .subL => [0x95]
  | .subAtHl => [0x96]
  | .subA => [0x97]
  | .sbcAB => [0x98]
  | .sbcAC => [0x99]
  | .sbcAD => [0x9A]
  | .sbcAE => [0x9B]
  | .sbcAH => [0x9C]
  | .sbcAL => [0x9D]
  | .sbcAAtHl => [0x9E]
  | .sbcAA => [0x9F]
  | .andB => [0xA0]
  | .andC => [0xA1]
  | .andD => [0xA2]
  | .andE => [0xA3]
  | .andH => [0xA4]
  | .andL => [0xA5]
  | .andAtHl => [0xA6]
  | .andA => [0xA7]
  | .xorB => [0xA8]
  | .xorC => [0xA9]
  | .xorD => [0xAA]
  | .xorE => [0xAB]
  | .xorH => [0xAC]
  | .xorL => [0xAD]
  | .xorAtHl => [0xAE]
  | .xorA => [0xAF]
  | .orB => [0xB0]
  | .orC => [0xB1]
  | .orD => [0xB2]
  | .orE => [0xB3]
  | .orH => [0xB4]
  | .orL => [0xB5]
  | .orAtHl => [0xB6]
  | .orA => [0xB7]
  | .cpB => [0xB8]
  | .cpC => [0xB9]
  | .cpD => [0xBA]
  | .cpE => [0xBB]
  | .cpH => [0xBC]
  | .cpL => [0xBD]
  | .cpAtHl => [0xBE]
  | .cpA => [0xBF]
  | .retNz => [0xC0]
  | .popBc => [0xC1]
  | .jpNzA16 nn => [0xC2, loByte nn, hiByte nn]
  | .jpA16 nn => [0xC3, loByte nn, hiByte nn]
  | .callNzA16 nn => [0xC4, loByte nn, hiByte nn]
  | .pushBc => [0xC5]
  | .addAD8 n => [0xC6, n]
  | .rst00 => [0xC7]
  | .retZ => [0xC8]
  | .ret => [0xC9]
  | .jpZA16 nn => [0xCA, loByte nn, hiByte nn]
  | .prefixCb cbop => [0xCB, cbop]
  | .callZA16 nn => [0xCC, loByte nn, hiByte nn]
  | .callA16 nn => [0xCD, loByte nn, hiByte nn]
  | .adcAD8 n => [0xCE, n]
  | .rst08 => [0xCF]
  | .retNc => [0xD0]
  | .popDe => [0xD1]
  | .jpNcA16 nn => [0xD2, loByte nn, hiByte nn]
  | .illegalD3 => [0xD3]
  | .callNcA16 nn => [0xD4, loByte nn, hiByte nn]
  | .pushDe => [0xD5]
  | .subD8 n => [0xD6, n]
  | .rst10 => [0xD7]
  | .retC => [0xD8]
  | .reti => [0xD9]
  | .jpCA16 nn => [0xDA, loByte nn, hiByte nn]
  | .illegalDB => [0xDB]
  | .callCA16 nn => [0xDC, loByte nn, hiByte nn]
  | .illegalDD => [0xDD]
  | .sbcAD8 n => [0xDE, n]
  | .rst18 => [0xDF]
  | .ldhAtA8A n => [0xE0, n]
  | .popHl => [0xE1]
  | .ldAtCA => [0xE2]
  | .illegalE3 => [0xE3]
  | .illegalE4 => [0xE4]
  | .pushHl => [0xE5]
  | .andD8 n => [0xE6, n]
  | .rst20 => [0xE7]
  | .addSpE8 e => [0xE8, e]
  | .jpHl => [0xE9]
  | .ldAtA16A nn => [0xEA, loByte nn, hiByte nn]
  | .illegalEB => [0xEB]
  | .illegalEC => [0xEC]
  | .illegalED => [0xED]
  | .xorD8 n => [0xEE, n]
  | .rst28 => [0xEF]
  | .ldhAAtA8 n => [0xF0, n]
  | .popAf => [0xF1]
  | .ldAAtC => [0xF2]
  | .di => [0xF3]
  | .illegalF4 => [0xF4]
  | .pushAf => [0xF5]
  | .orD8 n => [0xF6, n]
  | .rst30 => [0xF7]
  | .ldHlSpE8 e => [0xF8, e]
  | .ldSpHl => [0xF9]
  | .ldAAtA16 nn => [0xFA, loByte nn, hiByte nn]
  | .ei => [0xFB]
  | .illegalFC => [0xFC]
  | .illegalFD => [0xFD]
  | .cpD8 n => [0xFE, n]
  | .rst38 => [0xFF]
  | .rlcR r => [0xCB, fieldsByte 0 0 (regIndex r)]
  | .rlcAtHl => [0xCB, fieldsByte 0 0 6]
  | .rrcR r => [0xCB, fieldsByte 0 1 (regIndex r)]
  | .rrcAtHl => [0xCB, fieldsByte 0 1 6]
  | .rlR r => [0xCB, fieldsByte 0 2 (regIndex r)]
  | .rlAtHl => [0xCB, fieldsByte 0 2 6]
  | .rrR r => [0xCB, fieldsByte 0 3 (regIndex r)]
  | .rrAtHl => [0xCB, fieldsByte 0 3 6]
  | .slaR r => [0xCB, fieldsByte 0 4 (regIndex r)]
  | .slaAtHl => [0xCB, fieldsByte 0 4 6]
  | .sraR r => [0xCB, fieldsByte 0 5 (regIndex r)]
  | .sraAtHl => [0xCB, fieldsByte 0 5 6]
  | .swapR r => [0xCB, fieldsByte 0 6 (regIndex r)]
  | .swapAtHl => [0xCB, fieldsByte 0 6 6]
  | .srlR r => [0xCB, fieldsByte 0 7 (regIndex r)]
  | .srlAtHl => [0xCB, fieldsByte 0 7 6]
  | .bitR b r => [0xCB, fieldsByte 1 b (regIndex r)]
  | .bitAtHl b => [0xCB, fieldsByte 1 b 6]
  | .resR b r => [0xCB, fieldsByte 2 b (regIndex r)]
  | .resAtHl b => [0xCB, fieldsByte 2 b 6]
  | .setR b r => [0xCB, fieldsByte 3 b (regIndex r)]
  | .setAtHl b => [0xCB, fieldsByte 3 b 6]

/-! ### The opcode table's words -/

/-- The three bytes, first address first, of an instruction that spec/opcode_table.json numbers as the `nbits`-bit
number `w`; every bit above is 0. The table numbers a CB row as the word `0xCB00 | cbop` (30_encoding.md R93), its
first byte in bits 15..8; every other row is its first byte alone, and further bytes would count on upwards
(log entry 7). -/
def tableBytes (nbits w : Nat) : List Byte :=
  let v := w % 2 ^ nbits
  let byteOf (k : Nat) : Byte := BitVec.ofNat 8 (v / 2 ^ (8 * k))
  if byteOf 1 = 0xCB ∧ byteOf 2 = 0 then [0xCB, byteOf 0, 0] else [byteOf 0, byteOf 1, byteOf 2]

/-- The instruction the decoder reads from a word of spec/opcode_table.json. -/
def decodeTableWord (nbits w : Nat) : Option Instr :=
  match decode (tableBytes nbits w) with
  | .ok (i, _) => some i
  | .error _ => none

end Sys2Proof
end

