-- ==== Sys2Proof/Machine/State.lean ====
section
/-! DEFINITION. The machine's state as plain data (10_state.md R37), the errors a step can record (60_exceptions.md
R300), the two ways a step can stop, and the state after power-on (10_state.md R38). -/

namespace Sys2Proof.Machine

/-- One transaction on the byte-wide bus port (20_memory.md R50, R55, R59). -/
inductive BusAccess where
  /-- A read of address `a` that answered `v`. -/
  | read (a : Word) (v : Byte)
  /-- A write of `v` to address `a`. -/
  | write (a : Word) (v : Byte)
  deriving DecidableEq, Repr

/-- How the bus treats an address. The core decodes no address: the kinds describe the bus (log entry 2). -/
inductive RegionKind where
  /-- The reference bus of 20_memory.md R66: a read returns the byte last written. -/
  | ram
  /-- Reads as `ram`. A write is accepted and ignored (R52). -/
  | readOnly
  /-- A collaborator whose answers are open: a read answers any byte (R50), a write is accepted and only recorded. -/
  | external
  deriving DecidableEq, Repr

/-- A window of addresses `first` to `last`, both included, and how the bus treats it. -/
structure Region where
  first : Nat
  last : Nat
  kind : RegionKind
  deriving DecidableEq, Repr

/-- The bytes that differ from what an unlisted address reads as, by strictly rising address. -/
abbrev Memory := List Host.Cell

/-- The bus's state as plain data: the parameter `S` of 20_memory.md R50 (log entries 2 and 3). -/
structure Bus where
  /-- The first window that holds an address decides its kind; an address in no window is `ram`. -/
  regions : List Region
  mem : Memory
  /-- Every transaction so far, newest first. -/
  trace : List BusAccess
  deriving DecidableEq, Repr

/-- The outcomes `Err(e)` of a step, with their recorded values (60_exceptions.md R300). -/
inductive CoreError where
  /-- A decode miss (R301). Unreachable on the complete table. -/
  | unknownOpcode (opcode : Byte) (pc : Word)
  /-- One of the eleven illegal bytes (R302). -/
  | illegalOpcode (opcode : Byte) (pc : Word)
  /-- A row whose operand shape has no handler (R303). Unreachable. -/
  | unimplementedOperandCombination (instruction : String)
  deriving DecidableEq, Repr

/-- The execution mode (10_state.md R31). -/
inductive Mode where
  | running
  | halted
  | stopped
  | faulted (e : CoreError)
  deriving DecidableEq, Repr

/-- The state: the tuple of 10_state.md R37 and, in `bus`, the state of the bus parameter of 20_memory.md R50. -/
structure State where
  /-- The accumulator (R20). -/
  a : Byte
  /-- The flag register: Z bit 7, N bit 6, H bit 5, C bit 4 (R24). -/
  f : Byte
  b : Byte
  c : Byte
  d : Byte
  e : Byte
  h : Byte
  l : Byte
  /-- The stack pointer (R22). -/
  sp : Word
  /-- The program counter (R36). -/
  pc : Word
  /-- The interrupt master enable (R30). -/
  ime : Bool
  /-- The execution mode (R31). -/
  mode : Mode
  /-- The cycle counter, an unbounded natural number (R32). -/
  cycleCount : Nat
  /-- The bus behind the port (20_memory.md R50). -/
  bus : Bus
  deriving DecidableEq, Repr

/-- Why the machine stops. -/
inductive Fault where
  /-- Raised by a step in mode Faulted(e), and by nothing else: "nothing changes, not even cycle_count, and the step
  returns `Err(e)`" (60_exceptions.md R311). Safe: the run ends where the spec says it has failed (log entry 5). -/
  | coreFaulted (e : CoreError)
  deriving DecidableEq, Repr

/-- Why the model refuses an instruction. -/
inductive Refusal where
  /-- Raised by an arm of exec whose instruction has no meaning yet; no arm raises it. Safe. -/
  | notModelled (mnemonic : String)
  deriving DecidableEq, Repr

/-- The instruction a refusal names. -/
def Refusal.instruction : Refusal → String
  | .notModelled m => m

/-- What executing an instruction, or one step, answers. -/
abbrev Result := Host.Outcome State Fault Refusal

/-- The state right after power-on (10_state.md R38, 70_reset_and_hazards.md R340). The spec gives every value but
those of `bus`, which is the host's parameter: Mem0 all zero (log entry 1), no window (log entry 2), no transaction
yet (log entry 3). -/
def State.reset : State where
  a := 0x00
  f := 0x00
  b := 0x00
  c := 0x00
  d := 0x00
  e := 0x00
  h := 0x00
  l := 0x00
  sp := 0xFFFE
  pc := 0x0100
  ime := true
  mode := .running
  cycleCount := 0
  bus := { regions := [], mem := [], trace := [] }

end Sys2Proof.Machine
end

