-- ==== Sys2Proof/Config.lean ====
section
/-! DEFINITION. What the spec leaves to the world around the core: the two OPEN parameters of 00_scope.md R11 that are
functions. Neither has a body, so no proof can see what it answers: a claim holds for every bus and every wake input.
(The third parameter, Mem0, is data: log entry 1.) -/

namespace Sys2Proof.Config

/-- FREE VALUE. The byte an external address answers to a read: a function of the whole history of transactions and of
the address, which is all that a bus `(S, read, write, s0)` can make its answer depend on (20_memory.md R50, D1;
log entry 2). -/
opaque busRead : List Machine.BusAccess → Word → Byte

/-- FREE VALUE. `Wake : State x Bus -> bool`, which decides whether a halted or stopped core returns to Running
(60_exceptions.md R322, D8; log entry 4). The spec's default `never` is one value it may have. -/
opaque wake : Machine.State → Bool

end Sys2Proof.Config
end

