-- ==== Sys2Proof/Machine/Memory.lean ====
section
/-! DEFINITION. Memory as a list of cells in one canonical form, and the bus over it (20_memory.md R50 to R53, R66). -/

namespace Sys2Proof.Machine

/-- What an address that no cell lists reads as: Mem0 all zero, the start of every test vector of
95_test_vectors.md section 0. DESIGN CHOICE, unsafe: log entry 1. -/
def unlistedByte : Byte := 0x00

/-- The byte of memory at an address. -/
def Memory.read : Memory → Nat → Byte
  | [], _ => unlistedByte
  | (k, w) :: rest, a => if k = a then w else Memory.read rest a

/-- Memory with no cell at an address. -/
def Memory.without : Memory → Nat → Memory
  | [], _ => []
  | (k, w) :: rest, a => if k = a then Memory.without rest a else (k, w) :: Memory.without rest a

/-- Memory with a cell put before the first cell of a higher address. -/
def Memory.putCell : Memory → Nat → Byte → Memory
  | [], a, v => [(a, v)]
  | (k, w) :: rest, a, v => if a < k then (a, v) :: (k, w) :: rest else (k, w) :: Memory.putCell rest a v

/-- Memory with one byte written, in canonical form again: what an unlisted address reads as is not listed. -/
def Memory.write (m : Memory) (a : Nat) (v : Byte) : Memory :=
  if v = unlistedByte then m.without a else (m.without a).putCell a v

/-- The canonical form of the cells at addresses from `lo` on: rising, inside the 16-bit address space (20_memory.md
R53), and none equal to what an unlisted address reads as. -/
def Memory.wfFrom : Nat → Memory → Bool
  | _, [] => true
  | lo, (k, w) :: rest => decide (lo ≤ k) && decide (k < 0x10000) && decide (w ≠ unlistedByte) && Memory.wfFrom (k + 1) rest

/-- The canonical form: two memories in it that read alike are equal. -/
def Memory.wf (m : Memory) : Bool := Memory.wfFrom 0 m

/-- Whether a window holds an address. -/
def Region.holds (r : Region) (a : Word) : Bool := decide (r.first ≤ a.toNat) && decide (a.toNat ≤ r.last)

/-- How the bus treats an address: as the first window that holds it says, and as `ram` where none does. -/
def Bus.kindAt (b : Bus) (a : Word) : RegionKind :=
  match b.regions.find? (fun r => r.holds a) with
  | some r => r.kind
  | none => .ram

end Sys2Proof.Machine
end

