-- ==== Sys2Proof/Machine/Ops.lean ====
section
/-! DEFINITION. The named operations every meaning is built from: registers and their views (10_state.md), the bus
port (20_memory.md), the pseudocode primitives (00_scope.md R14), the stack (46_stack.md R240), raising an error
(60_exceptions.md R305) and the two returns. -/

namespace Sys2Proof.Machine

/-! ### Registers -/

/-- `R8[r]` (00_scope.md R13). -/
def State.reg8 (s : State) : Reg8 → Byte
  | .b => s.b
  | .c => s.c
  | .d => s.d
  | .e => s.e
  | .h => s.h
  | .l => s.l
  | .a => s.a

/-- `R8[r] <- v`. -/
def State.setReg8 (s : State) (r : Reg8) (v : Byte) : State :=
  match r with
  | .b => { s with b := v }
  | .c => { s with c := v }
  | .d => { s with d := v }
  | .e => { s with e := v }
  | .h => { s with h := v }
  | .l => { s with l := v }
  | .a => { s with a := v }

/-- A read of F: its four low bits read as 0 (10_state.md R23; log entry 12). -/
def State.readF (s : State) : Byte := s.f &&& 0xF0

/-- A write of F stores `v & 0xF0` (10_state.md R23). -/
def State.writeF (s : State) (v : Byte) : State := { s with f := v &&& 0xF0 }

def State.setSp (s : State) (v : Word) : State := { s with sp := v }

def State.setPc (s : State) (v : Word) : State := { s with pc := v }

def State.setIme (s : State) (v : Bool) : State := { s with ime := v }

def State.setMode (s : State) (m : Mode) : State := { s with mode := m }

/-- `BC = (B<<8)|C` (10_state.md R21). -/
def State.bc (s : State) : Word := mkWord s.b s.c

/-- `DE = (D<<8)|E` (R21). -/
def State.de (s : State) : Word := mkWord s.d s.e

/-- `HL = (H<<8)|L` (R21). -/
def State.hl (s : State) : Word := mkWord s.h s.l

/-- `AF = (A<<8)|F` (R21). -/
def State.af (s : State) : Word := mkWord s.a s.readF

/-- `R16[p]` (30_encoding.md R85). -/
def State.pair (s : State) : Pair → Word
  | .bc => s.bc
  | .de => s.de
  | .hl => s.hl
  | .sp => s.sp

/-- `R16[p] <- v`: both halves in one step (10_state.md R21). -/
def State.setPair (s : State) (p : Pair) (v : Word) : State :=
  match p with
  | .bc => (s.setReg8 .b (hiByte v)).setReg8 .c (loByte v)
  | .de => (s.setReg8 .d (hiByte v)).setReg8 .e (loByte v)
  | .hl => (s.setReg8 .h (hiByte v)).setReg8 .l (loByte v)
  | .sp => s.setSp v

/-- `R16AF[p]`, the pair that PUSH and POP select (30_encoding.md R86). -/
def State.stackPair (s : State) : StackPair → Word
  | .bc => s.bc
  | .de => s.de
  | .hl => s.hl
  | .af => s.af

/-- `R16AF[p] <- v`. The AF view drops the low nibble of F (10_state.md R23). -/
def State.setStackPair (s : State) (p : StackPair) (v : Word) : State :=
  match p with
  | .bc => s.setPair .bc v
  | .de => s.setPair .de v
  | .hl => s.setPair .hl v
  | .af => (s.setReg8 .a (hiByte v)).writeF (loByte v)

/-! ### The bus port -/

/-- `read(address)`: a byte for every address, never a failure (20_memory.md R51). -/
def Bus.read (b : Bus) (a : Word) : Byte × Bus :=
  let v := match b.kindAt a with
    | .external => Config.busRead b.trace a
    | .ram => b.mem.read a.toNat
    | .readOnly => b.mem.read a.toNat
  (v, { b with trace := .read a v :: b.trace })

/-- `write(address, value)`: every address is accepted, never a failure (20_memory.md R52). -/
def Bus.write (b : Bus) (a : Word) (v : Byte) : Bus :=
  let m := match b.kindAt a with
    | .ram => b.mem.write a.toNat v
    | .readOnly => b.mem
    | .external => b.mem
  { b with mem := m, trace := .write a v :: b.trace }

/-- The byte of memory at an address, seen without a bus transaction. -/
def State.byteAt (s : State) (a : Word) : Byte := s.bus.mem.read a.toNat

/-! ### The pseudocode primitives -/

/-- `internal(n)`: `4*n` cycles without the bus, and no other effect (70_reset_and_hazards.md R351). -/
def State.internal (s : State) (n : Nat) : State := { s with cycleCount := s.cycleCount + 4 * n }

/-- `MemRead(addr, 1)`: one byte from the bus, and the charge for one bus access, 4 cycles
(70_reset_and_hazards.md R350). -/
def State.memRead (s : State) (a : Word) : Byte × State :=
  let p := s.bus.read a
  (p.1, { s with bus := p.2, cycleCount := s.cycleCount + 4 })

/-- `MemWrite(addr, 1, v)`: one byte to the bus, 4 cycles. -/
def State.memWrite (s : State) (a : Word) (v : Byte) : State :=
  { s with bus := s.bus.write a v, cycleCount := s.cycleCount + 4 }

/-- `fetch8()`: the byte at PC, and PC moved on by 1 modulo 2^16 (00_scope.md R14, 10_state.md R36). -/
def State.fetch8 (s : State) : Byte × State :=
  let p := s.memRead s.pc
  (p.1, p.2.setPc (s.pc + 1))

/-- `n` times `fetch8()`: the bytes in the order of their addresses. -/
def State.fetchBytes (s : State) : Nat → List Byte × State
  | 0 => ([], s)
  | n + 1 =>
    let p := s.fetch8
    let q := p.2.fetchBytes n
    (p.1 :: q.1, q.2)

/-! ### The stack -/

/-- `push16(v)`: the high byte at SP-1, then the low byte at SP-2 (46_stack.md R240). -/
def State.push16 (s : State) (v : Word) : State :=
  let s1 := (s.setSp (s.sp - 1)).memWrite (s.sp - 1) (hiByte v)
  (s1.setSp (s.sp - 2)).memWrite (s.sp - 2) (loByte v)

/-- `pop16()`: the low byte at SP, then the high byte at SP+1 (46_stack.md R240). -/
def State.pop16 (s : State) : Word × State :=
  let p := s.memRead s.sp
  let q := (p.2.setSp (s.sp + 1)).memRead (s.sp + 1)
  (mkWord q.1 p.1, q.2.setSp (s.sp + 2))

/-! ### Errors and returns -/

/-- `raise e`: the mode becomes Faulted(e) and "every other state element" stays "as the fetch left it"; nothing is
saved, pushed or vectored (60_exceptions.md R305). There is no return from an error (R307). -/
def State.raise (s : State) (e : CoreError) : State := s.setMode (.faulted e)

/-- The end of RET, taken RET cc and RETI: `a <- pop16(); internal(1); PC <- a` (47_control.md R259, R260, R262). It
restores PC and SP and nothing else (60_exceptions.md R307). -/
def State.returnToStack (s : State) : State :=
  let p := s.pop16
  (p.2.internal 1).setPc p.1

/-- The end of CALL, taken CALL cc and RST: `internal(1); push16(PC); PC <- a` (47_control.md R257, R258, R263). -/
def State.callTo (s : State) (a : Word) : State := ((s.internal 1).push16 s.pc).setPc a

/-- A taken redirection: `internal(1); PC <- a` (70_reset_and_hazards.md R352). -/
def State.jumpTo (s : State) (a : Word) : State := (s.internal 1).setPc a

/-- One step of a halted or stopped core: one idle cycle with no bus access, then Running again if the wake input
holds (60_exceptions.md R311, 70_reset_and_hazards.md R356). -/
def State.idle (s : State) : State :=
  let s1 := s.internal 1
  if Config.wake s1 then s1.setMode .running else s1

/-! ### Loading from outside -/

/-- A byte placed in memory by the host, with no bus transaction (70_reset_and_hazards.md R343). -/
def State.placeByte (s : State) (a : Word) (v : Byte) : State :=
  { s with bus := { s.bus with mem := s.bus.mem.write a.toNat v } }

/-- Bytes placed from an address on, wrapping modulo 2^16. -/
def State.placeBytes (s : State) (a : Word) : List Byte → State
  | [] => s
  | v :: rest => (s.placeByte a v).placeBytes (a + 1) rest

/-- The windows that hold none of the `n` addresses from `a` on. -/
def Bus.regionsClearOf (b : Bus) (a : Word) (n : Nat) : List Region :=
  b.regions.filter fun r => (List.range n).all fun k => !r.holds (a + BitVec.ofNat 16 k)

end Sys2Proof.Machine
end

