-- ==== Sys2Proof/Machine/Flags.lean ====
section
/-! DEFINITION. The four flags and every flag computation of the spec (10_state.md R24, R25; 41_alu8.md R111, R140;
42_alu16.md R153, R154). -/

namespace Sys2Proof.Machine

/-- ZF, bit 7 of F (10_state.md R24). -/
def State.zf (s : State) : Bool := s.f.getLsbD 7

/-- NF, bit 6 of F. -/
def State.nf (s : State) : Bool := s.f.getLsbD 6

/-- HF, bit 5 of F. -/
def State.hf (s : State) : Bool := s.f.getLsbD 5

/-- CF, bit 4 of F. -/
def State.cf (s : State) : Bool := s.f.getLsbD 4

/-- The byte F that packs four flags (10_state.md R24). -/
def packFlags (z n h c : Bool) : Byte :=
  BitVec.ofBool z ++ BitVec.ofBool n ++ BitVec.ofBool h ++ BitVec.ofBool c ++ (0 : BitVec 4)

/-- The four flags written. An unaffected flag is passed its present value (10_state.md R25). -/
def State.setFlags (s : State) (z n h c : Bool) : State := s.writeF (packFlags z n h c)

/-- `cond(cc)`: only Z and C are tested (47_control.md R250). -/
def State.cond (s : State) : Cond → Bool
  | .nz => !s.zf
  | .z => s.zf
  | .nc => !s.cf
  | .c => s.cf

/-- A sum or difference with the half-carry and carry it produces. -/
structure Arith (w : Nat) where
  result : BitVec w
  half : Bool
  carry : Bool
  deriving DecidableEq, Repr

/-- `add8(a, b, cin)`: the exact sum, truncated; carry out of bit 3 and out of bit 7 (41_alu8.md R111). -/
def add8 (a b : Byte) (cin : Bool) : Arith 8 :=
  let sum := a.toNat + b.toNat + bitNat cin
  { result := BitVec.ofNat 8 sum
    half := decide (0x0F < lowNibble a + lowNibble b + bitNat cin)
    carry := decide (0xFF < sum) }

/-- `sub8(a, b, cin)`: the exact difference, truncated; borrow from bit 4 and borrow (41_alu8.md R111). -/
def sub8 (a b : Byte) (cin : Bool) : Arith 8 :=
  let diff : Int := a.toNat - b.toNat - bitNat cin
  { result := BitVec.ofInt 8 diff
    half := decide (((lowNibble a : Int) - lowNibble b - bitNat cin) < 0)
    carry := decide (diff < 0) }

/-- The sum of ADD HL,rr: carry out of bit 11 and out of bit 15 (42_alu16.md R153). -/
def add16 (x y : Word) : Arith 16 :=
  let sum := x.toNat + y.toNat
  { result := BitVec.ofNat 16 sum
    half := decide (0x0FFF < x.toNat % 0x1000 + y.toNat % 0x1000)
    carry := decide (0xFFFF < sum) }

/-- The sum of ADD SP,e8 and LD HL,SP+e8: the carries are those of the unsigned addition of the low byte of SP and
the raw byte, out of bit 3 and bit 7, for a negative `e` too (42_alu16.md R154, C5). -/
def addSigned (sp : Word) (e : Byte) : Arith 16 :=
  { result := sp + sext16 e
    half := decide (0x0F < sp.toNat % 16 + e.toNat % 16)
    carry := decide (0xFF < sp.toNat % 256 + e.toNat) }

/-- The corrected accumulator and the carry of DAA (41_alu8.md R140). -/
def daaAdjust (a : Byte) (n h c : Bool) : Byte × Bool :=
  let low : Byte := if h || (!n && decide (0x09 < lowNibble a)) then 0x06 else 0x00
  let high : Bool := c || (!n && decide (0x99 < a.toNat))
  let corr : Byte := low ||| (if high then 0x60 else 0x00)
  (if n then a - corr else a + corr, high)

end Sys2Proof.Machine
end

