-- ==== Sys2Proof/Machine/Operands.lean ====
section
/-! DEFINITION. The operand forms (30_encoding.md R84, R90, R94): where an 8-bit operand is read and written, and the
effective addresses. -/

namespace Sys2Proof.Machine

/-- The operand of an 8-bit ALU instruction: a register, one bus read at HL, or the immediate byte already fetched
(41_alu8.md R110). -/
def State.readSrc (s : State) : Src8 → Byte × State
  | .reg r => (s.reg8 r, s)
  | .atHl => s.memRead s.hl
  | .imm n => (n, s)

/-- `get(z)` (43_rotate_shift.md R170). -/
def State.getLoc (s : State) : Loc8 → Byte × State
  | .reg r => (s.reg8 r, s)
  | .atHl => s.memRead s.hl

/-- `put(z, v)` (43_rotate_shift.md R170). -/
def State.putLoc (s : State) (z : Loc8) (v : Byte) : State :=
  match z with
  | .reg r => s.setReg8 r v
  | .atHl => s.memWrite s.hl v

/-- The address of `(a8)` and `(C)`: `0xFF00 + byte` (30_encoding.md R90, 45_load.md R200). -/
def highPage (n : Byte) : Word := 0xFF00 + zext16 n

end Sys2Proof.Machine
end

