-- ==== Sys2Proof/Machine/Alu16.lean ====
section
/-! DEFINITION. 16-bit arithmetic (42_alu16.md). -/

namespace Sys2Proof.Machine

/-- `internal(1); R16[p] <- R16[p] + 1`, no flag (R151). -/
def State.incPair (s : State) (p : Pair) : State := (s.internal 1).setPair p (s.pair p + 1)

/-- `internal(1); R16[p] <- R16[p] - 1`, no flag (R152). -/
def State.decPair (s : State) (p : Pair) : State := (s.internal 1).setPair p (s.pair p - 1)

/-- `HL <- HL + R16[p]`, flags `- 0 H C` (R153). -/
def State.addHl (s : State) (p : Pair) : State :=
  let r := add16 s.hl (s.pair p)
  ((s.internal 1).setPair .hl r.result).setFlags s.zf false r.half r.carry

/-- `SP <- SP + e`, flags `0 0 H C` (R154). -/
def State.addSp (s : State) (e : Byte) : State :=
  let r := addSigned s.sp e
  ((s.internal 2).setSp r.result).setFlags false false r.half r.carry

/-- `HL <- SP + e`, flags `0 0 H C` (R155). -/
def State.loadHlSpOffset (s : State) (e : Byte) : State :=
  let r := addSigned s.sp e
  ((s.internal 1).setPair .hl r.result).setFlags false false r.half r.carry

/-- INC BC (R151). -/
def execIncBc (s : State) : Result := .next (s.incPair .bc)

/-- INC DE (R151). -/
def execIncDe (s : State) : Result := .next (s.incPair .de)

/-- INC HL (R151). -/
def execIncHl (s : State) : Result := .next (s.incPair .hl)

/-- INC SP (R151). -/
def execIncSp (s : State) : Result := .next (s.incPair .sp)

/-- DEC BC (R152). -/
def execDecBc (s : State) : Result := .next (s.decPair .bc)

/-- DEC DE (R152). -/
def execDecDe (s : State) : Result := .next (s.decPair .de)

/-- DEC HL (R152). -/
def execDecHl (s : State) : Result := .next (s.decPair .hl)

/-- DEC SP (R152). -/
def execDecSp (s : State) : Result := .next (s.decPair .sp)

/-- ADD HL,BC (R153). -/
def execAddHlBc (s : State) : Result := .next (s.addHl .bc)

/-- ADD HL,DE (R153). -/
def execAddHlDe (s : State) : Result := .next (s.addHl .de)

/-- ADD HL,HL (R153). -/
def execAddHlHl (s : State) : Result := .next (s.addHl .hl)

/-- ADD HL,SP (R153). -/
def execAddHlSp (s : State) : Result := .next (s.addHl .sp)

/-- ADD SP,e8 (R154). -/
def execAddSpE8 (e : Byte) (s : State) : Result := .next (s.addSp e)

/-- LD HL,SP+e8 (R155). -/
def execLdHlSpE8 (e : Byte) (s : State) : Result := .next (s.loadHlSpOffset e)

end Sys2Proof.Machine
end

