-- ==== Sys2Proof/Machine/Alu8.lean ====
section
/-! DEFINITION. 8-bit arithmetic and logic (41_alu8.md). Each meaning starts after the instruction's bytes have been
fetched, with PC at the fall-through address (10_state.md R36). -/

namespace Sys2Proof.Machine

/-- `(res, h, c) <- add8(A, n, cin); A <- res` with flags `Z 0 H C` (R112 to R117). -/
def State.addToA (s : State) (src : Src8) (cin : Bool) : State :=
  let p := s.readSrc src
  let r := add8 s.a p.1 cin
  (p.2.setReg8 .a r.result).setFlags (r.result == 0) false r.half r.carry

/-- `(res, h, c) <- sub8(A, n, cin); A <- res` with flags `Z 1 H C` (R118 to R123). -/
def State.subFromA (s : State) (src : Src8) (cin : Bool) : State :=
  let p := s.readSrc src
  let r := sub8 s.a p.1 cin
  (p.2.setReg8 .a r.result).setFlags (r.result == 0) true r.half r.carry

/-- `A <- res` with flags `Z 0 h 0`, the end of AND, XOR and OR (R124 to R132). -/
def State.logicResult (s : State) (res : Byte) (h : Bool) : State :=
  (s.setReg8 .a res).setFlags (res == 0) false h false

/-- `A <- A & n`, flags `Z 0 1 0` (R124 to R126). -/
def State.andA (s : State) (src : Src8) : State :=
  let p := s.readSrc src
  p.2.logicResult (s.a &&& p.1) true

/-- `A <- A ^ n`, flags `Z 0 0 0` (R127 to R129). -/
def State.xorA (s : State) (src : Src8) : State :=
  let p := s.readSrc src
  p.2.logicResult (s.a ^^^ p.1) false

/-- `A <- A | n`, flags `Z 0 0 0` (R130 to R132). -/
def State.orA (s : State) (src : Src8) : State :=
  let p := s.readSrc src
  p.2.logicResult (s.a ||| p.1) false

/-- `sub8(A, n, 0)` with flags `Z 1 H C`, A not written (R133 to R135). -/
def State.compareA (s : State) (src : Src8) : State :=
  let p := s.readSrc src
  let r := sub8 s.a p.1 false
  p.2.setFlags (r.result == 0) true r.half r.carry

/-- `v + 1` in place, flags `Z 0 H -` with H when the low nibble was 0xF (R136, R137). -/
def State.inc8 (s : State) (z : Loc8) : State :=
  let p := s.getLoc z
  (p.2.putLoc z (p.1 + 1)).setFlags (p.1 + 1 == 0) false (lowNibble p.1 == 0x0F) s.cf

/-- `v - 1` in place, flags `Z 1 H -` with H when the low nibble was 0 (R138, R139). -/
def State.dec8 (s : State) (z : Loc8) : State :=
  let p := s.getLoc z
  (p.2.putLoc z (p.1 - 1)).setFlags (p.1 - 1 == 0) true (lowNibble p.1 == 0x00) s.cf

/-- DAA: flags `Z - 0 C` (R140). -/
def State.decimalAdjust (s : State) : State :=
  let r := daaAdjust s.a s.nf s.hf s.cf
  (s.setReg8 .a r.1).setFlags (r.1 == 0) s.nf false r.2

/-- CPL: flags `- 1 1 -` (R141). -/
def State.complementA (s : State) : State := (s.setReg8 .a (~~~s.a)).setFlags s.zf true true s.cf

/-- ADD A,B (R112). -/
def execAddAB (s : State) : Result := .next (s.addToA (.reg .b) false)

/-- ADD A,C (R112). -/
def execAddAC (s : State) : Result := .next (s.addToA (.reg .c) false)

/-- ADD A,D (R112). -/
def execAddAD (s : State) : Result := .next (s.addToA (.reg .d) false)

/-- ADD A,E (R112). -/
def execAddAE (s : State) : Result := .next (s.addToA (.reg .e) false)

/-- ADD A,H (R112). -/
def execAddAH (s : State) : Result := .next (s.addToA (.reg .h) false)

/-- ADD A,L (R112). -/
def execAddAL (s : State) : Result := .next (s.addToA (.reg .l) false)

/-- ADD A,A (R112). -/
def execAddAA (s : State) : Result := .next (s.addToA (.reg .a) false)

/-- ADD A,(HL) (R113). -/
def execAddAAtHl (s : State) : Result := .next (s.addToA .atHl false)

/-- ADD A,d8 (R114). -/
def execAddAD8 (n : Byte) (s : State) : Result := .next (s.addToA (.imm n) false)

/-- ADC A,B (R115). -/
def execAdcAB (s : State) : Result := .next (s.addToA (.reg .b) s.cf)

/-- ADC A,C (R115). -/
def execAdcAC (s : State) : Result := .next (s.addToA (.reg .c) s.cf)

/-- ADC A,D (R115). -/
def execAdcAD (s : State) : Result := .next (s.addToA (.reg .d) s.cf)

/-- ADC A,E (R115). -/
def execAdcAE (s : State) : Result := .next (s.addToA (.reg .e) s.cf)

/-- ADC A,H (R115). -/
def execAdcAH (s : State) : Result := .next (s.addToA (.reg .h) s.cf)

/-- ADC A,L (R115). -/
def execAdcAL (s : State) : Result := .next (s.addToA (.reg .l) s.cf)

/-- ADC A,A (R115). -/
def execAdcAA (s : State) : Result := .next (s.addToA (.reg .a) s.cf)

/-- ADC A,(HL) (R116). -/
def execAdcAAtHl (s : State) : Result := .next (s.addToA .atHl s.cf)

/-- ADC A,d8 (R117). -/
def execAdcAD8 (n : Byte) (s : State) : Result := .next (s.addToA (.imm n) s.cf)

/-- SUB B (R118). -/
def execSubB (s : State) : Result := .next (s.subFromA (.reg .b) false)

/-- SUB C (R118). -/
def execSubC (s : State) : Result := .next (s.subFromA (.reg .c) false)

/-- SUB D (R118). -/
def execSubD (s : State) : Result := .next (s.subFromA (.reg .d) false)

/-- SUB E (R118). -/
def execSubE (s : State) : Result := .next (s.subFromA (.reg .e) false)

/-- SUB H (R118). -/
def execSubH (s : State) : Result := .next (s.subFromA (.reg .h) false)

/-- SUB L (R118). -/
def execSubL (s : State) : Result := .next (s.subFromA (.reg .l) false)

/-- SUB A (R118). -/
def execSubA (s : State) : Result := .next (s.subFromA (.reg .a) false)

/-- SUB (HL) (R119). -/
def execSubAtHl (s : State) : Result := .next (s.subFromA .atHl false)

/-- SUB d8 (R120). -/
def execSubD8 (n : Byte) (s : State) : Result := .next (s.subFromA (.imm n) false)

/-- SBC A,B (R121). -/
def execSbcAB (s : State) : Result := .next (s.subFromA (.reg .b) s.cf)

/-- SBC A,C (R121). -/
def execSbcAC (s : State) : Result := .next (s.subFromA (.reg .c) s.cf)

/-- SBC A,D (R121). -/
def execSbcAD (s : State) : Result := .next (s.subFromA (.reg .d) s.cf)

/-- SBC A,E (R121). -/
def execSbcAE (s : State) : Result := .next (s.subFromA (.reg .e) s.cf)

/-- SBC A,H (R121). -/
def execSbcAH (s : State) : Result := .next (s.subFromA (.reg .h) s.cf)

/-- SBC A,L (R121). -/
def execSbcAL (s : State) : Result := .next (s.subFromA (.reg .l) s.cf)

/-- SBC A,A (R121). -/
def execSbcAA (s : State) : Result := .next (s.subFromA (.reg .a) s.cf)

/-- SBC A,(HL) (R122). -/
def execSbcAAtHl (s : State) : Result := .next (s.subFromA .atHl s.cf)

/-- SBC A,d8 (R123). -/
def execSbcAD8 (n : Byte) (s : State) : Result := .next (s.subFromA (.imm n) s.cf)

/-- AND B (R124). -/
def execAndB (s : State) : Result := .next (s.andA (.reg .b))

/-- AND C (R124). -/
def execAndC (s : State) : Result := .next (s.andA (.reg .c))

/-- AND D (R124). -/
def execAndD (s : State) : Result := .next (s.andA (.reg .d))

/-- AND E (R124). -/
def execAndE (s : State) : Result := .next (s.andA (.reg .e))

/-- AND H (R124). -/
def execAndH (s : State) : Result := .next (s.andA (.reg .h))

/-- AND L (R124). -/
def execAndL (s : State) : Result := .next (s.andA (.reg .l))

/-- AND A (R124). -/
def execAndA (s : State) : Result := .next (s.andA (.reg .a))

/-- AND (HL) (R125). -/
def execAndAtHl (s : State) : Result := .next (s.andA .atHl)

/-- AND d8 (R126). -/
def execAndD8 (n : Byte) (s : State) : Result := .next (s.andA (.imm n))

/-- XOR B (R127). -/
def execXorB (s : State) : Result := .next (s.xorA (.reg .b))

/-- XOR C (R127). -/
def execXorC (s : State) : Result := .next (s.xorA (.reg .c))

/-- XOR D (R127). -/
def execXorD (s : State) : Result := .next (s.xorA (.reg .d))

/-- XOR E (R127). -/
def execXorE (s : State) : Result := .next (s.xorA (.reg .e))

/-- XOR H (R127). -/
def execXorH (s : State) : Result := .next (s.xorA (.reg .h))

/-- XOR L (R127). -/
def execXorL (s : State) : Result := .next (s.xorA (.reg .l))

/-- XOR A (R127). -/
def execXorA (s : State) : Result := .next (s.xorA (.reg .a))

/-- XOR (HL) (R128). -/
def execXorAtHl (s : State) : Result := .next (s.xorA .atHl)

/-- XOR d8 (R129). -/
def execXorD8 (n : Byte) (s : State) : Result := .next (s.xorA (.imm n))

/-- OR B (R130). -/
def execOrB (s : State) : Result := .next (s.orA (.reg .b))

/-- OR C (R130). -/
def execOrC (s : State) : Result := .next (s.orA (.reg .c))

/-- OR D (R130). -/
def execOrD (s : State) : Result := .next (s.orA (.reg .d))

/-- OR E (R130). -/
def execOrE (s : State) : Result := .next (s.orA (.reg .e))

/-- OR H (R130). -/
def execOrH (s : State) : Result := .next (s.orA (.reg .h))

/-- OR L (R130). -/
def execOrL (s : State) : Result := .next (s.orA (.reg .l))

/-- OR A (R130). -/
def execOrA (s : State) : Result := .next (s.orA (.reg .a))

/-- OR (HL) (R131). -/
def execOrAtHl (s : State) : Result := .next (s.orA .atHl)

/-- OR d8 (R132). -/
def execOrD8 (n : Byte) (s : State) : Result := .next (s.orA (.imm n))

/-- CP B (R133). -/
def execCpB (s : State) : Result := .next (s.compareA (.reg .b))

/-- CP C (R133). -/
def execCpC (s : State) : Result := .next (s.compareA (.reg .c))

/-- CP D (R133). -/
def execCpD (s : State) : Result := .next (s.compareA (.reg .d))

/-- CP E (R133). -/
def execCpE (s : State) : Result := .next (s.compareA (.reg .e))

/-- CP H (R133). -/
def execCpH (s : State) : Result := .next (s.compareA (.reg .h))

/-- CP L (R133). -/
def execCpL (s : State) : Result := .next (s.compareA (.reg .l))

/-- CP A (R133). -/
def execCpA (s : State) : Result := .next (s.compareA (.reg .a))

/-- CP (HL) (R134). -/
def execCpAtHl (s : State) : Result := .next (s.compareA .atHl)

/-- CP d8 (R135). -/
def execCpD8 (n : Byte) (s : State) : Result := .next (s.compareA (.imm n))

/-- INC B (R136). -/
def execIncB (s : State) : Result := .next (s.inc8 (.reg .b))

/-- INC C (R136). -/
def execIncC (s : State) : Result := .next (s.inc8 (.reg .c))

/-- INC D (R136). -/
def execIncD (s : State) : Result := .next (s.inc8 (.reg .d))

/-- INC E (R136). -/
def execIncE (s : State) : Result := .next (s.inc8 (.reg .e))

/-- INC H (R136). -/
def execIncH (s : State) : Result := .next (s.inc8 (.reg .h))

/-- INC L (R136). -/
def execIncL (s : State) : Result := .next (s.inc8 (.reg .l))

/-- INC A (R136). -/
def execIncA (s : State) : Result := .next (s.inc8 (.reg .a))

/-- INC (HL) (R137). -/
def execIncAtHl (s : State) : Result := .next (s.inc8 .atHl)

/-- DEC B (R138). -/
def execDecB (s : State) : Result := .next (s.dec8 (.reg .b))

/-- DEC C (R138). -/
def execDecC (s : State) : Result := .next (s.dec8 (.reg .c))

/-- DEC D (R138). -/
def execDecD (s : State) : Result := .next (s.dec8 (.reg .d))

/-- DEC E (R138). -/
def execDecE (s : State) : Result := .next (s.dec8 (.reg .e))

/-- DEC H (R138). -/
def execDecH (s : State) : Result := .next (s.dec8 (.reg .h))

/-- DEC L (R138). -/
def execDecL (s : State) : Result := .next (s.dec8 (.reg .l))

/-- DEC A (R138). -/
def execDecA (s : State) : Result := .next (s.dec8 (.reg .a))

/-- DEC (HL) (R139). -/
def execDecAtHl (s : State) : Result := .next (s.dec8 .atHl)

/-- DAA (R140). -/
def execDaa (s : State) : Result := .next (s.decimalAdjust)

/-- CPL (R141). -/
def execCpl (s : State) : Result := .next (s.complementA)

/-- SCF (R142). -/
def execScf (s : State) : Result := .next (s.setFlags s.zf false false true)

/-- CCF (R143). -/
def execCcf (s : State) : Result := .next (s.setFlags s.zf false false (!s.cf))

end Sys2Proof.Machine
end

