-- ==== Sys2Proof/Machine/Bit.lean ====
section
/-! DEFINITION. Bit test, reset and set (44_bit.md). -/

namespace Sys2Proof.Machine

/-- `1 << b`. -/
def bitMask (b : BitVec 3) : Byte := 1 <<< b.toNat

/-- BIT: `ZF <- (v[b] = 0)`, flags `Z 0 1 -`, nothing written back (R191, R192). -/
def State.testBit (s : State) (b : BitVec 3) (z : Loc8) : State :=
  let p := s.getLoc z
  p.2.setFlags (!p.1.getLsbD b.toNat) false true s.cf

/-- RES: `v & ~(1 << b)` written back, no flag (R193, R194). -/
def State.clearBit (s : State) (b : BitVec 3) (z : Loc8) : State :=
  let p := s.getLoc z
  p.2.putLoc z (p.1 &&& ~~~bitMask b)

/-- SET: `v | (1 << b)` written back, no flag (R195, R196). -/
def State.putBit (s : State) (b : BitVec 3) (z : Loc8) : State :=
  let p := s.getLoc z
  p.2.putLoc z (p.1 ||| bitMask b)

/-- BIT b,r (R191). -/
def execBitR (b : BitVec 3) (r : Reg8) (s : State) : Result := .next (s.testBit b (.reg r))

/-- BIT b,(HL) (R192). -/
def execBitAtHl (b : BitVec 3) (s : State) : Result := .next (s.testBit b .atHl)

/-- RES b,r (R193). -/
def execResR (b : BitVec 3) (r : Reg8) (s : State) : Result := .next (s.clearBit b (.reg r))

/-- RES b,(HL) (R194). -/
def execResAtHl (b : BitVec 3) (s : State) : Result := .next (s.clearBit b .atHl)

/-- SET b,r (R195). -/
def execSetR (b : BitVec 3) (r : Reg8) (s : State) : Result := .next (s.putBit b (.reg r))

/-- SET b,(HL) (R196). -/
def execSetAtHl (b : BitVec 3) (s : State) : Result := .next (s.putBit b .atHl)

end Sys2Proof.Machine
end

