-- ==== Sys2Proof/Machine/Control.lean ====
section
/-! DEFINITION. Control transfer (47_control.md). No control transfer writes a flag; operand bytes have been fetched
whether or not the condition holds (R251). -/

namespace Sys2Proof.Machine

/-- `if cond(cc) then …`: the taken state, or the state as it is at the fall-through address (R251). -/
def State.whenCond (s : State) (cc : Cond) (taken : State) : State := if s.cond cc then taken else s

/-- RET cc: the first internal cycle is charged whether or not the return is taken (R260). -/
def State.returnWhen (s : State) (cc : Cond) : State :=
  (s.internal 1).whenCond cc (s.internal 1).returnToStack

/-- JP a16 (R252). -/
def execJpA16 (nn : Word) (s : State) : Result := .next (s.jumpTo nn)

/-- JP NZ,a16 (R253). -/
def execJpNzA16 (nn : Word) (s : State) : Result := .next (s.whenCond .nz (s.jumpTo nn))

/-- JP Z,a16 (R253). -/
def execJpZA16 (nn : Word) (s : State) : Result := .next (s.whenCond .z (s.jumpTo nn))

/-- JP NC,a16 (R253). -/
def execJpNcA16 (nn : Word) (s : State) : Result := .next (s.whenCond .nc (s.jumpTo nn))

/-- JP C,a16 (R253). -/
def execJpCA16 (nn : Word) (s : State) : Result := .next (s.whenCond .c (s.jumpTo nn))

/-- JP HL (R254). -/
def execJpHl (s : State) : Result := .next (s.setPc s.hl)

/-- JR e8 (R255). -/
def execJrE8 (e : Byte) (s : State) : Result := .next (s.jumpTo (s.pc + sext16 e))

/-- JR NZ,e8 (R256). -/
def execJrNzE8 (e : Byte) (s : State) : Result := .next (s.whenCond .nz (s.jumpTo (s.pc + sext16 e)))

/-- JR Z,e8 (R256). -/
def execJrZE8 (e : Byte) (s : State) : Result := .next (s.whenCond .z (s.jumpTo (s.pc + sext16 e)))

/-- JR NC,e8 (R256). -/
def execJrNcE8 (e : Byte) (s : State) : Result := .next (s.whenCond .nc (s.jumpTo (s.pc + sext16 e)))

/-- JR C,e8 (R256). -/
def execJrCE8 (e : Byte) (s : State) : Result := .next (s.whenCond .c (s.jumpTo (s.pc + sext16 e)))

/-- CALL a16 (R257). -/
def execCallA16 (nn : Word) (s : State) : Result := .next (s.callTo nn)

/-- CALL NZ,a16 (R258). -/
def execCallNzA16 (nn : Word) (s : State) : Result := .next (s.whenCond .nz (s.callTo nn))

/-- CALL Z,a16 (R258). -/
def execCallZA16 (nn : Word) (s : State) : Result := .next (s.whenCond .z (s.callTo nn))

/-- CALL NC,a16 (R258). -/
def execCallNcA16 (nn : Word) (s : State) : Result := .next (s.whenCond .nc (s.callTo nn))

/-- CALL C,a16 (R258). -/
def execCallCA16 (nn : Word) (s : State) : Result := .next (s.whenCond .c (s.callTo nn))

/-- RET (R259). -/
def execRet (s : State) : Result := .next (s.returnToStack)

/-- RET NZ (R260). -/
def execRetNz (s : State) : Result := .next (s.returnWhen .nz)

/-- RET Z (R260). -/
def execRetZ (s : State) : Result := .next (s.returnWhen .z)

/-- RET NC (R260). -/
def execRetNc (s : State) : Result := .next (s.returnWhen .nc)

/-- RET C (R260). -/
def execRetC (s : State) : Result := .next (s.returnWhen .c)

/-- RETI (R262). -/
def execReti (s : State) : Result := .next (s.returnToStack.setIme true)

/-- RST 00H (R263). -/
def execRst00 (s : State) : Result := .next (s.callTo (zext16 0x00))

/-- RST 08H (R263). -/
def execRst08 (s : State) : Result := .next (s.callTo (zext16 0x08))

/-- RST 10H (R263). -/
def execRst10 (s : State) : Result := .next (s.callTo (zext16 0x10))

/-- RST 18H (R263). -/
def execRst18 (s : State) : Result := .next (s.callTo (zext16 0x18))

/-- RST 20H (R263). -/
def execRst20 (s : State) : Result := .next (s.callTo (zext16 0x20))

/-- RST 28H (R263). -/
def execRst28 (s : State) : Result := .next (s.callTo (zext16 0x28))

/-- RST 30H (R263). -/
def execRst30 (s : State) : Result := .next (s.callTo (zext16 0x30))

/-- RST 38H (R263). -/
def execRst38 (s : State) : Result := .next (s.callTo (zext16 0x38))

end Sys2Proof.Machine
end

