-- ==== Sys2Proof/Machine/Load.lean ====
section
/-! DEFINITION. Loads and stores (45_load.md). None of them writes a flag (R200). -/

namespace Sys2Proof.Machine

/-- `R8[dst] <- R8[src]` (R201). -/
def State.loadReg (s : State) (dst src : Reg8) : State := s.setReg8 dst (s.reg8 src)

/-- `R8[dst] <- MemRead(addr, 1)`. -/
def State.loadFrom (s : State) (dst : Reg8) (addr : Word) : State :=
  let p := s.memRead addr
  p.2.setReg8 dst p.1

/-- A word at an address, its low byte first (20_memory.md R54, R55). -/
def State.storeWord (s : State) (addr v : Word) : State :=
  (s.memWrite addr (loByte v)).memWrite (addr + 1) (hiByte v)

/-- LD B,B (R201). -/
def execLdBB (s : State) : Result := .next (s.loadReg .b .b)

/-- LD B,C (R201). -/
def execLdBC (s : State) : Result := .next (s.loadReg .b .c)

/-- LD B,D (R201). -/
def execLdBD (s : State) : Result := .next (s.loadReg .b .d)

/-- LD B,E (R201). -/
def execLdBE (s : State) : Result := .next (s.loadReg .b .e)

/-- LD B,H (R201). -/
def execLdBH (s : State) : Result := .next (s.loadReg .b .h)

/-- LD B,L (R201). -/
def execLdBL (s : State) : Result := .next (s.loadReg .b .l)

/-- LD B,A (R201). -/
def execLdBA (s : State) : Result := .next (s.loadReg .b .a)

/-- LD C,B (R201). -/
def execLdCB (s : State) : Result := .next (s.loadReg .c .b)

/-- LD C,C (R201). -/
def execLdCC (s : State) : Result := .next (s.loadReg .c .c)

/-- LD C,D (R201). -/
def execLdCD (s : State) : Result := .next (s.loadReg .c .d)

/-- LD C,E (R201). -/
def execLdCE (s : State) : Result := .next (s.loadReg .c .e)

/-- LD C,H (R201). -/
def execLdCH (s : State) : Result := .next (s.loadReg .c .h)

/-- LD C,L (R201). -/
def execLdCL (s : State) : Result := .next (s.loadReg .c .l)

/-- LD C,A (R201). -/
def execLdCA (s : State) : Result := .next (s.loadReg .c .a)

/-- LD D,B (R201). -/
def execLdDB (s : State) : Result := .next (s.loadReg .d .b)

/-- LD D,C (R201). -/
def execLdDC (s : State) : Result := .next (s.loadReg .d .c)

/-- LD D,D (R201). -/
def execLdDD (s : State) : Result := .next (s.loadReg .d .d)

/-- LD D,E (R201). -/
def execLdDE (s : State) : Result := .next (s.loadReg .d .e)

/-- LD D,H (R201). -/
def execLdDH (s : State) : Result := .next (s.loadReg .d .h)

/-- LD D,L (R201). -/
def execLdDL (s : State) : Result := .next (s.loadReg .d .l)

/-- LD D,A (R201). -/
def execLdDA (s : State) : Result := .next (s.loadReg .d .a)

/-- LD E,B (R201). -/
def execLdEB (s : State) : Result := .next (s.loadReg .e .b)

/-- LD E,C (R201). -/
def execLdEC (s : State) : Result := .next (s.loadReg .e .c)

/-- LD E,D (R201). -/
def execLdED (s : State) : Result := .next (s.loadReg .e .d)

/-- LD E,E (R201). -/
def execLdEE (s : State) : Result := .next (s.loadReg .e .e)

/-- LD E,H (R201). -/
def execLdEH (s : State) : Result := .next (s.loadReg .e .h)

/-- LD E,L (R201). -/
def execLdEL (s : State) : Result := .next (s.loadReg .e .l)

/-- LD E,A (R201). -/
def execLdEA (s : State) : Result := .next (s.loadReg .e .a)

/-- LD H,B (R201). -/
def execLdHB (s : State) : Result := .next (s.loadReg .h .b)

/-- LD H,C (R201). -/
def execLdHC (s : State) : Result := .next (s.loadReg .h .c)

/-- LD H,D (R201). -/
def execLdHD (s : State) : Result := .next (s.loadReg .h .d)

/-- LD H,E (R201). -/
def execLdHE (s : State) : Result := .next (s.loadReg .h .e)

/-- LD H,H (R201). -/
def execLdHH (s : State) : Result := .next (s.loadReg .h .h)

/-- LD H,L (R201). -/
def execLdHL (s : State) : Result := .next (s.loadReg .h .l)

/-- LD H,A (R201). -/
def execLdHA (s : State) : Result := .next (s.loadReg .h .a)

/-- LD L,B (R201). -/
def execLdLB (s : State) : Result := .next (s.loadReg .l .b)

/-- LD L,C (R201). -/
def execLdLC (s : State) : Result := .next (s.loadReg .l .c)

/-- LD L,D (R201). -/
def execLdLD (s : State) : Result := .next (s.loadReg .l .d)

/-- LD L,E (R201). -/
def execLdLE (s : State) : Result := .next (s.loadReg .l .e)

/-- LD L,H (R201). -/
def execLdLH (s : State) : Result := .next (s.loadReg .l .h)

/-- LD L,L (R201). -/
def execLdLL (s : State) : Result := .next (s.loadReg .l .l)

/-- LD L,A (R201). -/
def execLdLA (s : State) : Result := .next (s.loadReg .l .a)

/-- LD A,B (R201). -/
def execLdAB (s : State) : Result := .next (s.loadReg .a .b)

/-- LD A,C (R201). -/
def execLdAC (s : State) : Result := .next (s.loadReg .a .c)

/-- LD A,D (R201). -/
def execLdAD (s : State) : Result := .next (s.loadReg .a .d)

/-- LD A,E (R201). -/
def execLdAE (s : State) : Result := .next (s.loadReg .a .e)

/-- LD A,H (R201). -/
def execLdAH (s : State) : Result := .next (s.loadReg .a .h)

/-- LD A,L (R201). -/
def execLdAL (s : State) : Result := .next (s.loadReg .a .l)

/-- LD A,A (R201). -/
def execLdAA (s : State) : Result := .next (s.loadReg .a .a)

/-- LD B,d8 (R202). -/
def execLdBD8 (n : Byte) (s : State) : Result := .next (s.setReg8 .b n)

/-- LD C,d8 (R202). -/
def execLdCD8 (n : Byte) (s : State) : Result := .next (s.setReg8 .c n)

/-- LD D,d8 (R202). -/
def execLdDD8 (n : Byte) (s : State) : Result := .next (s.setReg8 .d n)

/-- LD E,d8 (R202). -/
def execLdED8 (n : Byte) (s : State) : Result := .next (s.setReg8 .e n)

/-- LD H,d8 (R202). -/
def execLdHD8 (n : Byte) (s : State) : Result := .next (s.setReg8 .h n)

/-- LD L,d8 (R202). -/
def execLdLD8 (n : Byte) (s : State) : Result := .next (s.setReg8 .l n)

/-- LD A,d8 (R202). -/
def execLdAD8 (n : Byte) (s : State) : Result := .next (s.setReg8 .a n)

/-- LD B,(HL) (R203). -/
def execLdBAtHl (s : State) : Result := .next (s.loadFrom .b s.hl)

/-- LD C,(HL) (R203). -/
def execLdCAtHl (s : State) : Result := .next (s.loadFrom .c s.hl)

/-- LD D,(HL) (R203). -/
def execLdDAtHl (s : State) : Result := .next (s.loadFrom .d s.hl)

/-- LD E,(HL) (R203). -/
def execLdEAtHl (s : State) : Result := .next (s.loadFrom .e s.hl)

/-- LD H,(HL) (R203). -/
def execLdHAtHl (s : State) : Result := .next (s.loadFrom .h s.hl)

/-- LD L,(HL) (R203). -/
def execLdLAtHl (s : State) : Result := .next (s.loadFrom .l s.hl)

/-- LD A,(HL) (R203). -/
def execLdAAtHl (s : State) : Result := .next (s.loadFrom .a s.hl)

/-- LD (HL),B (R204). -/
def execLdAtHlB (s : State) : Result := .next (s.memWrite s.hl (s.reg8 .b))

/-- LD (HL),C (R204). -/
def execLdAtHlC (s : State) : Result := .next (s.memWrite s.hl (s.reg8 .c))

/-- LD (HL),D (R204). -/
def execLdAtHlD (s : State) : Result := .next (s.memWrite s.hl (s.reg8 .d))

/-- LD (HL),E (R204). -/
def execLdAtHlE (s : State) : Result := .next (s.memWrite s.hl (s.reg8 .e))

/-- LD (HL),H (R204). -/
def execLdAtHlH (s : State) : Result := .next (s.memWrite s.hl (s.reg8 .h))

/-- LD (HL),L (R204). -/
def execLdAtHlL (s : State) : Result := .next (s.memWrite s.hl (s.reg8 .l))

/-- LD (HL),A (R204). -/
def execLdAtHlA (s : State) : Result := .next (s.memWrite s.hl (s.reg8 .a))

/-- LD (HL),d8 (R205). -/
def execLdAtHlD8 (n : Byte) (s : State) : Result := .next (s.memWrite s.hl n)

/-- LD A,(BC) (R206). -/
def execLdAAtBc (s : State) : Result := .next (s.loadFrom .a s.bc)

/-- LD A,(DE) (R207). -/
def execLdAAtDe (s : State) : Result := .next (s.loadFrom .a s.de)

/-- LD (BC),A (R208). -/
def execLdAtBcA (s : State) : Result := .next (s.memWrite s.bc s.a)

/-- LD (DE),A (R209). -/
def execLdAtDeA (s : State) : Result := .next (s.memWrite s.de s.a)

/-- LD A,(a16) (R210). -/
def execLdAAtA16 (nn : Word) (s : State) : Result := .next (s.loadFrom .a nn)

/-- LD (a16),A (R211). -/
def execLdAtA16A (nn : Word) (s : State) : Result := .next (s.memWrite nn s.a)

/-- LD (HL+),A (R212). -/
def execLdAtHlIncA (s : State) : Result := .next ((s.memWrite s.hl s.a).setPair .hl (s.hl + 1))

/-- LD (HL-),A (R213). -/
def execLdAtHlDecA (s : State) : Result := .next ((s.memWrite s.hl s.a).setPair .hl (s.hl - 1))

/-- LD A,(HL+) (R214). -/
def execLdAAtHlInc (s : State) : Result := .next ((s.loadFrom .a s.hl).setPair .hl (s.hl + 1))

/-- LD A,(HL-) (R215). -/
def execLdAAtHlDec (s : State) : Result := .next ((s.loadFrom .a s.hl).setPair .hl (s.hl - 1))

/-- LDH (a8),A (R216). -/
def execLdhAtA8A (n : Byte) (s : State) : Result := .next (s.memWrite (highPage n) s.a)

/-- LDH A,(a8) (R217). -/
def execLdhAAtA8 (n : Byte) (s : State) : Result := .next (s.loadFrom .a (highPage n))

/-- LD (C),A (R218). -/
def execLdAtCA (s : State) : Result := .next (s.memWrite (highPage s.c) s.a)

/-- LD A,(C) (R219). -/
def execLdAAtC (s : State) : Result := .next (s.loadFrom .a (highPage s.c))

/-- LD BC,d16 (R220). -/
def execLdBcD16 (nn : Word) (s : State) : Result := .next (s.setPair .bc nn)

/-- LD DE,d16 (R220). -/
def execLdDeD16 (nn : Word) (s : State) : Result := .next (s.setPair .de nn)

/-- LD HL,d16 (R220). -/
def execLdHlD16 (nn : Word) (s : State) : Result := .next (s.setPair .hl nn)

/-- LD SP,d16 (R220). -/
def execLdSpD16 (nn : Word) (s : State) : Result := .next (s.setPair .sp nn)

/-- LD (a16),SP (R221). -/
def execLdAtA16Sp (nn : Word) (s : State) : Result := .next (s.storeWord nn s.sp)

/-- LD SP,HL (R222). -/
def execLdSpHl (s : State) : Result := .next ((s.internal 1).setSp s.hl)

end Sys2Proof.Machine
end

