-- ==== Sys2Proof/Machine/RotateShift.lean ====
section
/-! DEFINITION. Rotates, shifts and SWAP (43_rotate_shift.md). -/

namespace Sys2Proof.Machine

/-- The result of a rotate, shift or swap of `v` with carry `c`: the table of R170, in its own slices. -/
def rotResult (op : RotOp) (v : Byte) (c : Bool) : Byte :=
  match op with
  | .rlc => v.extractLsb' 0 7 ++ v.extractLsb' 7 1
  | .rrc => v.extractLsb' 0 1 ++ v.extractLsb' 1 7
  | .rl => v.extractLsb' 0 7 ++ BitVec.ofBool c
  | .rr => BitVec.ofBool c ++ v.extractLsb' 1 7
  | .sla => v.extractLsb' 0 7 ++ (0 : BitVec 1)
  | .sra => v.extractLsb' 7 1 ++ v.extractLsb' 1 7
  | .swap => v.extractLsb' 0 4 ++ v.extractLsb' 4 4
  | .srl => (0 : BitVec 1) ++ v.extractLsb' 1 7

/-- The bit shifted out (R170); SWAP shifts none out and clears C (R187). -/
def rotCarry (op : RotOp) (v : Byte) : Bool :=
  match op with
  | .rlc => v.getLsbD 7
  | .rrc => v.getLsbD 0
  | .rl => v.getLsbD 7
  | .rr => v.getLsbD 0
  | .sla => v.getLsbD 7
  | .sra => v.getLsbD 0
  | .swap => false
  | .srl => v.getLsbD 0

/-- The accumulator rotates: flags `0 0 0 C`, Z cleared whatever the result (R171 to R174). -/
def State.rotateA (s : State) (op : RotOp) : State :=
  (s.setReg8 .a (rotResult op s.a s.cf)).setFlags false false false (rotCarry op s.a)

/-- The CB rotates, shifts and SWAP: flags `Z 0 0 C` (R175 to R190). -/
def State.rotateLoc (s : State) (op : RotOp) (z : Loc8) : State :=
  let p := s.getLoc z
  let res := rotResult op p.1 s.cf
  (p.2.putLoc z res).setFlags (res == 0) false false (rotCarry op p.1)

/-- RLCA (R171). -/
def execRlca (s : State) : Result := .next (s.rotateA .rlc)

/-- RRCA (R172). -/
def execRrca (s : State) : Result := .next (s.rotateA .rrc)

/-- RLA (R173). -/
def execRla (s : State) : Result := .next (s.rotateA .rl)

/-- RRA (R174). -/
def execRra (s : State) : Result := .next (s.rotateA .rr)

/-- RLC r (R175). -/
def execRlcR (r : Reg8) (s : State) : Result := .next (s.rotateLoc .rlc (.reg r))

/-- RLC (HL) (R176). -/
def execRlcAtHl (s : State) : Result := .next (s.rotateLoc .rlc .atHl)

/-- RRC r (R177). -/
def execRrcR (r : Reg8) (s : State) : Result := .next (s.rotateLoc .rrc (.reg r))

/-- RRC (HL) (R178). -/
def execRrcAtHl (s : State) : Result := .next (s.rotateLoc .rrc .atHl)

/-- RL r (R179). -/
def execRlR (r : Reg8) (s : State) : Result := .next (s.rotateLoc .rl (.reg r))

/-- RL (HL) (R180). -/
def execRlAtHl (s : State) : Result := .next (s.rotateLoc .rl .atHl)

/-- RR r (R181). -/
def execRrR (r : Reg8) (s : State) : Result := .next (s.rotateLoc .rr (.reg r))

/-- RR (HL) (R182). -/
def execRrAtHl (s : State) : Result := .next (s.rotateLoc .rr .atHl)

/-- SLA r (R183). -/
def execSlaR (r : Reg8) (s : State) : Result := .next (s.rotateLoc .sla (.reg r))

/-- SLA (HL) (R184). -/
def execSlaAtHl (s : State) : Result := .next (s.rotateLoc .sla .atHl)

/-- SRA r (R185). -/
def execSraR (r : Reg8) (s : State) : Result := .next (s.rotateLoc .sra (.reg r))

/-- SRA (HL) (R186). -/
def execSraAtHl (s : State) : Result := .next (s.rotateLoc .sra .atHl)

/-- SWAP r (R187). -/
def execSwapR (r : Reg8) (s : State) : Result := .next (s.rotateLoc .swap (.reg r))

/-- SWAP (HL) (R188). -/
def execSwapAtHl (s : State) : Result := .next (s.rotateLoc .swap .atHl)

/-- SRL r (R189). -/
def execSrlR (r : Reg8) (s : State) : Result := .next (s.rotateLoc .srl (.reg r))

/-- SRL (HL) (R190). -/
def execSrlAtHl (s : State) : Result := .next (s.rotateLoc .srl .atHl)

end Sys2Proof.Machine
end

