-- ==== Sys2Proof/Machine/Stack.lean ====
section
/-! DEFINITION. Stack operations (46_stack.md). -/

namespace Sys2Proof.Machine

/-- `internal(1); push16(R16AF[p])` (R241, R242). -/
def State.pushPair (s : State) (p : StackPair) : State := (s.internal 1).push16 (s.stackPair p)

/-- `R16AF[p] <- pop16()` (R243); into AF, F takes the popped low byte without its low nibble (R244). -/
def State.popPair (s : State) (p : StackPair) : State :=
  let q := s.pop16
  q.2.setStackPair p q.1

/-- PUSH BC (R241). -/
def execPushBc (s : State) : Result := .next (s.pushPair .bc)

/-- PUSH DE (R241). -/
def execPushDe (s : State) : Result := .next (s.pushPair .de)

/-- PUSH HL (R241). -/
def execPushHl (s : State) : Result := .next (s.pushPair .hl)

/-- PUSH AF (R242). -/
def execPushAf (s : State) : Result := .next (s.pushPair .af)

/-- POP BC (R243). -/
def execPopBc (s : State) : Result := .next (s.popPair .bc)

/-- POP DE (R243). -/
def execPopDe (s : State) : Result := .next (s.popPair .de)

/-- POP HL (R243). -/
def execPopHl (s : State) : Result := .next (s.popPair .hl)

/-- POP AF (R244). -/
def execPopAf (s : State) : Result := .next (s.popPair .af)

end Sys2Proof.Machine
end

