-- ==== Sys2Proof/Machine/System.lean ====
section
/-! DEFINITION. System instructions and the illegal bytes (48_system.md). -/

namespace Sys2Proof.Machine

/-- `raise IllegalOpcode with opcode op and pc pc0` (R286, 60_exceptions.md R302): pc0 is the address the byte was
fetched from, one behind PC, since no operand byte is fetched. -/
def State.raiseIllegal (s : State) (op : Byte) : State := s.raise (.illegalOpcode op (s.pc - 1))

/-- NOP (R280). -/
def execNop (s : State) : Result := .next (s)

/-- HALT (R281), with no skipped PC increment, the spec's decision D24 (log entry 14). -/
def execHalt (s : State) : Result := .next (s.setMode .halted)

/-- STOP (R282). Its second byte is fetched, and ignored whatever its value (30_encoding.md R102). -/
def execStop (_x : Byte) (s : State) : Result := .next (s.setMode .stopped)

/-- DI (R284). -/
def execDi (s : State) : Result := .next (s.setIme false)

/-- EI (R285): at once, the spec's decision D10 (log entry 14). -/
def execEi (s : State) : Result := .next (s.setIme true)

/-- The illegal byte 0xD3 (R286). -/
def execIllegalD3 (s : State) : Result := .next (s.raiseIllegal 0xD3)

/-- The illegal byte 0xDB (R286). -/
def execIllegalDB (s : State) : Result := .next (s.raiseIllegal 0xDB)

/-- The illegal byte 0xDD (R286). -/
def execIllegalDD (s : State) : Result := .next (s.raiseIllegal 0xDD)

/-- The illegal byte 0xE3 (R286). -/
def execIllegalE3 (s : State) : Result := .next (s.raiseIllegal 0xE3)

/-- The illegal byte 0xE4 (R286). -/
def execIllegalE4 (s : State) : Result := .next (s.raiseIllegal 0xE4)

/-- The illegal byte 0xEB (R286). -/
def execIllegalEB (s : State) : Result := .next (s.raiseIllegal 0xEB)

/-- The illegal byte 0xEC (R286). -/
def execIllegalEC (s : State) : Result := .next (s.raiseIllegal 0xEC)

/-- The illegal byte 0xED (R286). -/
def execIllegalED (s : State) : Result := .next (s.raiseIllegal 0xED)

/-- The illegal byte 0xF4 (R286). -/
def execIllegalF4 (s : State) : Result := .next (s.raiseIllegal 0xF4)

/-- The illegal byte 0xFC (R286). -/
def execIllegalFC (s : State) : Result := .next (s.raiseIllegal 0xFC)

/-- The illegal byte 0xFD (R286). -/
def execIllegalFD (s : State) : Result := .next (s.raiseIllegal 0xFD)

end Sys2Proof.Machine
end

