-- ==== Sys2Proof/Machine/Prefix.lean ====
section
/-! DEFINITION. The CB prefix (48_system.md R283): the second byte selects the CB descriptor. -/

namespace Sys2Proof.Machine

/-- The meaning of a CB rotate, shift or SWAP (43_rotate_shift.md R170). -/
def execCbRot (op : RotOp) (z : Loc8) (s : State) : Result :=
  match op, z with
  | .rlc, .reg r => execRlcR r s
  | .rlc, .atHl => execRlcAtHl s
  | .rrc, .reg r => execRrcR r s
  | .rrc, .atHl => execRrcAtHl s
  | .rl, .reg r => execRlR r s
  | .rl, .atHl => execRlAtHl s
  | .rr, .reg r => execRrR r s
  | .rr, .atHl => execRrAtHl s
  | .sla, .reg r => execSlaR r s
  | .sla, .atHl => execSlaAtHl s
  | .sra, .reg r => execSraR r s
  | .sra, .atHl => execSraAtHl s
  | .swap, .reg r => execSwapR r s
  | .swap, .atHl => execSwapAtHl s
  | .srl, .reg r => execSrlR r s
  | .srl, .atHl => execSrlAtHl s

/-- The meaning of a CB BIT (44_bit.md). -/
def execCbBit (b : BitVec 3) (z : Loc8) (s : State) : Result :=
  match z with
  | .reg r => execBitR b r s
  | .atHl => execBitAtHl b s

/-- The meaning of a CB RES (44_bit.md). -/
def execCbRes (b : BitVec 3) (z : Loc8) (s : State) : Result :=
  match z with
  | .reg r => execResR b r s
  | .atHl => execResAtHl b s

/-- The meaning of a CB SET (44_bit.md). -/
def execCbSet (b : BitVec 3) (z : Loc8) (s : State) : Result :=
  match z with
  | .reg r => execSetR b r s
  | .atHl => execSetAtHl b s

/-- PREFIX CB (R283). Both bytes have been fetched; the second selects the instruction by its fields (R83). The
decoder answers that instruction itself, so a step never runs this row (log entry 6). -/
def execPrefixCb (cbop : Byte) (s : State) : Result :=
  match (fieldX cbop).toNat with
  | 0 => execCbRot (rotOfIndex (fieldY cbop)) (locOfIndex (fieldZ cbop)) s
  | 1 => execCbBit (fieldY cbop) (locOfIndex (fieldZ cbop)) s
  | 2 => execCbRes (fieldY cbop) (locOfIndex (fieldZ cbop)) s
  | _ => execCbSet (fieldY cbop) (locOfIndex (fieldZ cbop)) s

end Sys2Proof.Machine
end

