-- ==== Sys2Proof/Machine/Fetch.lean ====
section
/-! DEFINITION. Fetching and decoding one instruction (30_encoding.md R91). -/

namespace Sys2Proof.Machine

/-- How many bytes follow a first byte: the first byte alone fixes the length (30_encoding.md R80). -/
def operandBytesOf (op : Byte) : Nat :=
  match formOf op with
  | some f => f.operandBytes
  | none => 0

/-- The bytes of the instruction at PC, each read by one `fetch8()`: the first byte, then the prefix's second byte or
the operand bytes, and no other access (20_memory.md R58; log entry 11). -/
def State.fetchInstr (s : State) : List Byte × State :=
  let p := s.fetch8
  let q := p.2.fetchBytes (operandBytesOf p.1)
  (p.1 :: q.1, q.2)

/-- The opcode a decode miss records: the second byte after the CB prefix, else the first (60_exceptions.md R301). -/
def missedOpcode : List Byte → Byte
  | [] => 0x00
  | [op] => op
  | op :: second :: _ => if op = 0xCB then second else op

/-- What a decode miss does: `raise UnknownOpcode`, with the opcode and the address its first byte was fetched from
(60_exceptions.md R301). Unreachable: the table is complete (log entry 10). -/
def State.decodeMiss (fetched : State) (bytes : List Byte) (pc0 : Word) : State :=
  fetched.raise (.unknownOpcode (missedOpcode bytes) pc0)

end Sys2Proof.Machine
end

