-- ==== Sys2Proof/Machine/Step.lean ====
section
/-! DEFINITION. One step (60_exceptions.md R308, R310, R311), and the host's placing of an instruction where the next
step fetches. -/

namespace Sys2Proof.Machine

/-- One step. Running: fetch, decode, execute. Halted or Stopped: one idle cycle. Faulted(e): `Err(e)`, nothing
changes (R311; log entry 5). The order of checks is mode, decode, execute (R308). -/
def step (s : State) : Host.Outcome State Fault Refusal :=
  match s.mode with
  | .running =>
    let p := s.fetchInstr
    match decode p.1 with
    | .ok (i, _) => exec i p.2
    | .error _ => .next (p.2.decodeMiss p.1 s.pc)
  | .halted => .next s.idle
  | .stopped => .next s.idle
  | .faulted e => .fault (.coreFaulted e)

/-- The state with an instruction of spec/opcode_table.json placed at PC, where a step in mode Running fetches: its
three bytes in memory, no window over them that would hide them, and mode Running (log entry 8). -/
def State.withFetchWord (s : State) (nbits w : Nat) : State :=
  let clear := { s with bus := { s.bus with regions := s.bus.regionsClearOf s.pc 3 }, mode := .running }
  clear.placeBytes s.pc (tableBytes nbits w)

end Sys2Proof.Machine
end

