-- ==== Sys2Proof/Machine/Descriptor.lean ====
section
/-! DEFINITION. The instruction descriptors (30_encoding.md R93): the columns of spec/opcode_table.json that no meaning
reads. They are configuration (10_state.md R35): the meanings are written from the rules of 41_alu8.md to 48_system.md,
and statements hold the two against each other. -/

namespace Sys2Proof

/-- What an instruction does to one flag (10_state.md R25). -/
inductive FlagEffect where
  | set
  | reset
  | computed
  | unaffected
  deriving DecidableEq, Repr

/-- The four-way policy for each flag, in the order Z N H C (00_scope.md R15). -/
structure FlagPolicy where
  z : FlagEffect
  n : FlagEffect
  h : FlagEffect
  c : FlagEffect
  deriving DecidableEq, Repr

/-- The total cycle charge of an instruction, its fetch included: when its condition holds, and when it does not; the
same number twice for an instruction without a condition (70_reset_and_hazards.md R353, R354). -/
structure CycleCost where
  taken : Nat
  notTaken : Nat
  deriving DecidableEq, Repr

/-- `length`: the bytes of an instruction, its opcode included (R80). -/
def Instr.length : Instr → Nat
  | .ldBcD16 _ | .ldAtA16Sp _ | .ldDeD16 _ | .ldHlD16 _ | .ldSpD16 _ | .jpNzA16 _ | .jpA16 _ | .callNzA16 _
  | .jpZA16 _ | .callZA16 _ | .callA16 _ | .jpNcA16 _ | .callNcA16 _ | .jpCA16 _ | .callCA16 _ | .ldAtA16A _
  | .ldAAtA16 _ => 3
  | .ldBD8 _ | .ldCD8 _ | .stop _ | .ldDD8 _ | .jrE8 _ | .ldED8 _ | .jrNzE8 _ | .ldHD8 _ | .jrZE8 _ | .ldLD8 _
  | .jrNcE8 _ | .ldAtHlD8 _ | .jrCE8 _ | .ldAD8 _ | .addAD8 _ | .prefixCb _ | .adcAD8 _ | .subD8 _ | .sbcAD8 _
  | .ldhAtA8A _ | .andD8 _ | .addSpE8 _ | .xorD8 _ | .ldhAAtA8 _ | .orD8 _ | .ldHlSpE8 _ | .cpD8 _ | .rlcR _
  | .rlcAtHl | .rrcR _ | .rrcAtHl | .rlR _ | .rlAtHl | .rrR _ | .rrAtHl | .slaR _ | .slaAtHl | .sraR _
  | .sraAtHl | .swapR _ | .swapAtHl | .srlR _ | .srlAtHl | .bitR _ _ | .bitAtHl _ | .resR _ _ | .resAtHl _
  | .setR _ _ | .setAtHl _ => 2
  | _ => 1

/-- `cycles` and `cycles_not_taken`. The prefix row has no cost of its own (48_system.md R283). -/
def Instr.cycles : Instr → Option CycleCost
  | .nop | .incB | .decB | .rlca | .incC | .decC | .rrca | .incD | .decD | .rla | .incE | .decE | .rra | .incH
  | .decH | .daa | .incL | .decL | .cpl | .scf | .incA | .decA | .ccf | .ldBB | .ldBC | .ldBD | .ldBE | .ldBH
  | .ldBL | .ldBA | .ldCB | .ldCC | .ldCD | .ldCE | .ldCH | .ldCL | .ldCA | .ldDB | .ldDC | .ldDD | .ldDE
  | .ldDH | .ldDL | .ldDA | .ldEB | .ldEC | .ldED | .ldEE | .ldEH | .ldEL | .ldEA | .ldHB | .ldHC | .ldHD
  | .ldHE | .ldHH | .ldHL | .ldHA | .ldLB | .ldLC | .ldLD | .ldLE | .ldLH | .ldLL | .ldLA | .halt | .ldAB
  | .ldAC | .ldAD | .ldAE | .ldAH | .ldAL | .ldAA | .addAB | .addAC | .addAD | .addAE | .addAH | .addAL
  | .addAA | .adcAB | .adcAC | .adcAD | .adcAE | .adcAH | .adcAL | .adcAA | .subB | .subC | .subD | .subE
  | .subH | .subL | .subA | .sbcAB | .sbcAC | .sbcAD | .sbcAE | .sbcAH | .sbcAL | .sbcAA | .andB | .andC
  | .andD | .andE | .andH | .andL | .andA | .xorB | .xorC | .xorD | .xorE | .xorH | .xorL | .xorA | .orB | .orC
  | .orD | .orE | .orH | .orL | .orA | .cpB | .cpC | .cpD | .cpE | .cpH | .cpL | .cpA | .illegalD3 | .illegalDB
  | .illegalDD | .illegalE3 | .illegalE4 | .jpHl | .illegalEB | .illegalEC | .illegalED | .di | .illegalF4
  | .ei | .illegalFC | .illegalFD => some ⟨4, 4⟩
  | .ldBcD16 _ | .ldDeD16 _ | .jrE8 _ | .ldHlD16 _ | .ldSpD16 _ | .incAtHl | .decAtHl | .ldAtHlD8 _ | .popBc
  | .popDe | .ldhAtA8A _ | .popHl | .ldhAAtA8 _ | .popAf | .ldHlSpE8 _ | .bitAtHl _ => some ⟨12, 12⟩
  | .ldAtBcA | .incBc | .ldBD8 _ | .addHlBc | .ldAAtBc | .decBc | .ldCD8 _ | .stop _ | .ldAtDeA | .incDe
  | .ldDD8 _ | .addHlDe | .ldAAtDe | .decDe | .ldED8 _ | .ldAtHlIncA | .incHl | .ldHD8 _ | .addHlHl
  | .ldAAtHlInc | .decHl | .ldLD8 _ | .ldAtHlDecA | .incSp | .addHlSp | .ldAAtHlDec | .decSp | .ldAD8 _
  | .ldBAtHl | .ldCAtHl | .ldDAtHl | .ldEAtHl | .ldHAtHl | .ldLAtHl | .ldAtHlB | .ldAtHlC | .ldAtHlD | .ldAtHlE
  | .ldAtHlH | .ldAtHlL | .ldAtHlA | .ldAAtHl | .addAAtHl | .adcAAtHl | .subAtHl | .sbcAAtHl | .andAtHl
  | .xorAtHl | .orAtHl | .cpAtHl | .addAD8 _ | .adcAD8 _ | .subD8 _ | .sbcAD8 _ | .ldAtCA | .andD8 _ | .xorD8 _
  | .ldAAtC | .orD8 _ | .ldSpHl | .cpD8 _ | .rlcR _ | .rrcR _ | .rlR _ | .rrR _ | .slaR _ | .sraR _ | .swapR _
  | .srlR _ | .bitR _ _ | .resR _ _ | .setR _ _ => some ⟨8, 8⟩
  | .ldAtA16Sp _ => some ⟨20, 20⟩
  | .jrNzE8 _ | .jrZE8 _ | .jrNcE8 _ | .jrCE8 _ => some ⟨12, 8⟩
  | .retNz | .retZ | .retNc | .retC => some ⟨20, 8⟩
  | .jpNzA16 _ | .jpZA16 _ | .jpNcA16 _ | .jpCA16 _ => some ⟨16, 12⟩
  | .jpA16 _ | .pushBc | .rst00 | .ret | .rst08 | .pushDe | .rst10 | .reti | .rst18 | .pushHl | .rst20
  | .addSpE8 _ | .ldAtA16A _ | .rst28 | .pushAf | .rst30 | .ldAAtA16 _ | .rst38 | .rlcAtHl | .rrcAtHl | .rlAtHl
  | .rrAtHl | .slaAtHl | .sraAtHl | .swapAtHl | .srlAtHl | .resAtHl _ | .setAtHl _ => some ⟨16, 16⟩
  | .callNzA16 _ | .callZA16 _ | .callNcA16 _ | .callCA16 _ => some ⟨24, 12⟩
  | .prefixCb _ => none
  | .callA16 _ => some ⟨24, 24⟩

/-- `condition`: none for an unconditional instruction (30_encoding.md R87). -/
def Instr.condition : Instr → Option Cond
  | .jrNzE8 _ | .retNz | .jpNzA16 _ | .callNzA16 _ => some .nz
  | .jrZE8 _ | .retZ | .jpZA16 _ | .callZA16 _ => some .z
  | .jrNcE8 _ | .retNc | .jpNcA16 _ | .callNcA16 _ => some .nc
  | .jrCE8 _ | .retC | .jpCA16 _ | .callCA16 _ => some .c
  | _ => none

/-- `flags`. The prefix row has no policy of its own (48_system.md R283). -/
def Instr.flagPolicy : Instr → Option FlagPolicy
  | .nop | .ldBcD16 _ | .ldAtBcA | .incBc | .ldBD8 _ | .ldAtA16Sp _ | .ldAAtBc | .decBc | .ldCD8 _ | .stop _
  | .ldDeD16 _ | .ldAtDeA | .incDe | .ldDD8 _ | .jrE8 _ | .ldAAtDe | .decDe | .ldED8 _ | .jrNzE8 _ | .ldHlD16 _
  | .ldAtHlIncA | .incHl | .ldHD8 _ | .jrZE8 _ | .ldAAtHlInc | .decHl | .ldLD8 _ | .jrNcE8 _ | .ldSpD16 _
  | .ldAtHlDecA | .incSp | .ldAtHlD8 _ | .jrCE8 _ | .ldAAtHlDec | .decSp | .ldAD8 _ | .ldBB | .ldBC | .ldBD
  | .ldBE | .ldBH | .ldBL | .ldBAtHl | .ldBA | .ldCB | .ldCC | .ldCD | .ldCE | .ldCH | .ldCL | .ldCAtHl | .ldCA
  | .ldDB | .ldDC | .ldDD | .ldDE | .ldDH | .ldDL | .ldDAtHl | .ldDA | .ldEB | .ldEC | .ldED | .ldEE | .ldEH
  | .ldEL | .ldEAtHl | .ldEA | .ldHB | .ldHC | .ldHD | .ldHE | .ldHH | .ldHL | .ldHAtHl | .ldHA | .ldLB | .ldLC
  | .ldLD | .ldLE | .ldLH | .ldLL | .ldLAtHl | .ldLA | .ldAtHlB | .ldAtHlC | .ldAtHlD | .ldAtHlE | .ldAtHlH
  | .ldAtHlL | .halt | .ldAtHlA | .ldAB | .ldAC | .ldAD | .ldAE | .ldAH | .ldAL | .ldAAtHl | .ldAA | .retNz
  | .popBc | .jpNzA16 _ | .jpA16 _ | .callNzA16 _ | .pushBc | .rst00 | .retZ | .ret | .jpZA16 _ | .callZA16 _
  | .callA16 _ | .rst08 | .retNc | .popDe | .jpNcA16 _ | .illegalD3 | .callNcA16 _ | .pushDe | .rst10 | .retC
  | .reti | .jpCA16 _ | .illegalDB | .callCA16 _ | .illegalDD | .rst18 | .ldhAtA8A _ | .popHl | .ldAtCA
  | .illegalE3 | .illegalE4 | .pushHl | .rst20 | .jpHl | .ldAtA16A _ | .illegalEB | .illegalEC | .illegalED
  | .rst28 | .ldhAAtA8 _ | .ldAAtC | .di | .illegalF4 | .pushAf | .rst30 | .ldSpHl | .ldAAtA16 _ | .ei
  | .illegalFC | .illegalFD | .rst38 | .resR _ _ | .resAtHl _ | .setR _ _ | .setAtHl _ => some ⟨.unaffected, .unaffected, .unaffected, .unaffected⟩
  | .incB | .incC | .incD | .incE | .incH | .incL | .incAtHl | .incA => some ⟨.computed, .reset, .computed, .unaffected⟩
  | .decB | .decC | .decD | .decE | .decH | .decL | .decAtHl | .decA => some ⟨.computed, .set, .computed, .unaffected⟩
  | .rlca | .rrca | .rla | .rra => some ⟨.reset, .reset, .reset, .computed⟩
  | .addHlBc | .addHlDe | .addHlHl | .addHlSp => some ⟨.unaffected, .reset, .computed, .computed⟩
  | .daa => some ⟨.computed, .unaffected, .reset, .computed⟩
  | .cpl => some ⟨.unaffected, .set, .set, .unaffected⟩
  | .scf => some ⟨.unaffected, .reset, .reset, .set⟩
  | .ccf => some ⟨.unaffected, .reset, .reset, .computed⟩
  | .addAB | .addAC | .addAD | .addAE | .addAH | .addAL | .addAAtHl | .addAA | .adcAB | .adcAC | .adcAD
  | .adcAE | .adcAH | .adcAL | .adcAAtHl | .adcAA | .addAD8 _ | .adcAD8 _ => some ⟨.computed, .reset, .computed, .computed⟩
  | .subB | .subC | .subD | .subE | .subH | .subL | .subAtHl | .subA | .sbcAB | .sbcAC | .sbcAD | .sbcAE
  | .sbcAH | .sbcAL | .sbcAAtHl | .sbcAA | .cpB | .cpC | .cpD | .cpE | .cpH | .cpL | .cpAtHl | .cpA | .subD8 _
  | .sbcAD8 _ | .cpD8 _ => some ⟨.computed, .set, .computed, .computed⟩
  | .andB | .andC | .andD | .andE | .andH | .andL | .andAtHl | .andA | .andD8 _ => some ⟨.computed, .reset, .set, .reset⟩
  | .xorB | .xorC | .xorD | .xorE | .xorH | .xorL | .xorAtHl | .xorA | .orB | .orC | .orD | .orE | .orH | .orL
  | .orAtHl | .orA | .xorD8 _ | .orD8 _ | .swapR _ | .swapAtHl => some ⟨.computed, .reset, .reset, .reset⟩
  | .prefixCb _ => none
  | .addSpE8 _ | .ldHlSpE8 _ => some ⟨.reset, .reset, .computed, .computed⟩
  | .popAf => some ⟨.computed, .computed, .computed, .computed⟩
  | .rlcR _ | .rlcAtHl | .rrcR _ | .rrcAtHl | .rlR _ | .rlAtHl | .rrR _ | .rrAtHl | .slaR _ | .slaAtHl
  | .sraR _ | .sraAtHl | .srlR _ | .srlAtHl => some ⟨.computed, .reset, .reset, .computed⟩
  | .bitR _ _ | .bitAtHl _ => some ⟨.computed, .reset, .set, .unaffected⟩

/-- `mnemonic`, in the spec's canonical spelling (R103). -/
def Instr.mnemonic : Instr → String
  | .nop => "NOP"
  | .ldBcD16 _ => "LD BC,d16"
  | .ldAtBcA => "LD (BC),A"
  | .incBc => "INC BC"
  | .incB => "INC B"
  | .decB => "DEC B"
  | .ldBD8 _ => "LD B,d8"
  | .rlca => "RLCA"
  | .ldAtA16Sp _ => "LD (a16),SP"
  | .addHlBc => "ADD HL,BC"
  | .ldAAtBc => "LD A,(BC)"
  | .decBc => "DEC BC"
  | .incC => "INC C"
  | .decC => "DEC C"
  | .ldCD8 _ => "LD C,d8"
  | .rrca => "RRCA"
  | .stop _ => "STOP"
  | .ldDeD16 _ => "LD DE,d16"
  | .ldAtDeA => "LD (DE),A"
  | .incDe => "INC DE"
  | .incD => "INC D"
  | .decD => "DEC D"
  | .ldDD8 _ => "LD D,d8"
  | .rla => "RLA"
  | .jrE8 _ => "JR e8"
  | .addHlDe => "ADD HL,DE"
  | .ldAAtDe => "LD A,(DE)"
  | .decDe => "DEC DE"
  | .incE => "INC E"
  | .decE => "DEC E"
  | .ldED8 _ => "LD E,d8"
  | .rra => "RRA"
  | .jrNzE8 _ => "JR NZ,e8"
  | .ldHlD16 _ => "LD HL,d16"
  | .ldAtHlIncA => "LD (HL+),A"
  | .incHl => "INC HL"
  | .incH => "INC H"
  | .decH => "DEC H"
  | .ldHD8 _ => "LD H,d8"
  | .daa => "DAA"
  | .jrZE8 _ => "JR Z,e8"
  | .addHlHl => "ADD HL,HL"
  | .ldAAtHlInc => "LD A,(HL+)"
  | .decHl => "DEC HL"
  | .incL => "INC L"
  | .decL => "DEC L"
  | .ldLD8 _ => "LD L,d8"
  | .cpl => "CPL"
  | .jrNcE8 _ => "JR NC,e8"
  | .ldSpD16 _ => "LD SP,d16"
  | .ldAtHlDecA => "LD (HL-),A"
  | .incSp => "INC SP"
  | .incAtHl => "INC (HL)"
  | .decAtHl => "DEC (HL)"
  | .ldAtHlD8 _ => "LD (HL),d8"
  | .scf => "SCF"
  | .jrCE8 _ => "JR C,e8"
  | .addHlSp => "ADD HL,SP"
  | .ldAAtHlDec => "LD A,(HL-)"
  | .decSp => "DEC SP"
  | .incA => "INC A"
  | .decA => "DEC A"
  | .ldAD8 _ => "LD A,d8"
  | .ccf => "CCF"
  | .ldBB => "LD B,B"
  | .ldBC => "LD B,C"
  | .ldBD => "LD B,D"
  | .ldBE => "LD B,E"
  | .ldBH => "LD B,H"
  | .ldBL => "LD B,L"
  | .ldBAtHl => "LD B,(HL)"
  | .ldBA => "LD B,A"
  | .ldCB => "LD C,B"
  | .ldCC => "LD C,C"
  | .ldCD => "LD C,D"
  | .ldCE => "LD C,E"
  | .ldCH => "LD C,H"
  | .ldCL => "LD C,L"
  | .ldCAtHl => "LD C,(HL)"
  | .ldCA => "LD C,A"
  | .ldDB => "LD D,B"
  | .ldDC => "LD D,C"
  | .ldDD => "LD D,D"
  | .ldDE => "LD D,E"
  | .ldDH => "LD D,H"
  | .ldDL => "LD D,L"
  | .ldDAtHl => "LD D,(HL)"
  | .ldDA => "LD D,A"
  | .ldEB => "LD E,B"
  | .ldEC => "LD E,C"
  | .ldED => "LD E,D"
  | .ldEE => "LD E,E"
  | .ldEH => "LD E,H"
  | .ldEL => "LD E,L"
  | .ldEAtHl => "LD E,(HL)"
  | .ldEA => "LD E,A"
  | .ldHB => "LD H,B"
  | .ldHC => "LD H,C"
  | .ldHD => "LD H,D"
  | .ldHE => "LD H,E"
  | .ldHH => "LD H,H"
  | .ldHL => "LD H,L"
  | .ldHAtHl => "LD H,(HL)"
  | .ldHA => "LD H,A"
  | .ldLB => "LD L,B"
  | .ldLC => "LD L,C"
  | .ldLD => "LD L,D"
  | .ldLE => "LD L,E"
  | .ldLH => "LD L,H"
  | .ldLL => "LD L,L"
  | .ldLAtHl => "LD L,(HL)"
  | .ldLA => "LD L,A"
  | .ldAtHlB => "LD (HL),B"
  | .ldAtHlC => "LD (HL),C"
  | .ldAtHlD => "LD (HL),D"
  | .ldAtHlE => "LD (HL),E"
  | .ldAtHlH => "LD (HL),H"
  | .ldAtHlL => "LD (HL),L"
  | .halt => "HALT"
  | .ldAtHlA => "LD (HL),A"
  | .ldAB => "LD A,B"
  | .ldAC => "LD A,C"
  | .ldAD => "LD A,D"
  | .ldAE => "LD A,E"
  | .ldAH => "LD A,H"
  | .ldAL => "LD A,L"
  | .ldAAtHl => "LD A,(HL)"
  | .ldAA => "LD A,A"
  | .addAB => "ADD A,B"
  | .addAC => "ADD A,C"
  | .addAD => "ADD A,D"
  | .addAE => "ADD A,E"
  | .addAH => "ADD A,H"
  | .addAL => "ADD A,L"
  | .addAAtHl => "ADD A,(HL)"
  | .addAA => "ADD A,A"
  | .adcAB => "ADC A,B"
  | .adcAC => "ADC A,C"
  | .adcAD => "ADC A,D"
  | .adcAE => "ADC A,E"
  | .adcAH => "ADC A,H"
  | .adcAL => "ADC A,L"
  | .adcAAtHl => "ADC A,(HL)"
  | .adcAA => "ADC A,A"
  | .subB => "SUB B"
  | .subC => "SUB C"
  | .subD => "SUB D"
  | .subE => "SUB E"
  | .subH => "SUB H"
  | .subL => "SUB L"
  | .subAtHl => "SUB (HL)"
  | .subA => "SUB A"
  | .sbcAB => "SBC A,B"
  | .sbcAC => "SBC A,C"
  | .sbcAD => "SBC A,D"
  | .sbcAE => "SBC A,E"
  | .sbcAH => "SBC A,H"
  | .sbcAL => "SBC A,L"
  | .sbcAAtHl => "SBC A,(HL)"
  | .sbcAA => "SBC A,A"
  | .andB => "AND B"
  | .andC => "AND C"
  | .andD => "AND D"
  | .andE => "AND E"
  | .andH => "AND H"
  | .andL => "AND L"
  | .andAtHl => "AND (HL)"
  | .andA => "AND A"
  | .xorB => "XOR B"
  | .xorC => "XOR C"
  | .xorD => "XOR D"
  | .xorE => "XOR E"
  | .xorH => "XOR H"
  | .xorL => "XOR L"
  | .xorAtHl => "XOR (HL)"
  | .xorA => "XOR A"
  | .orB => "OR B"
  | .orC => "OR C"
  | .orD => "OR D"
  | .orE => "OR E"
  | .orH => "OR H"
  | .orL => "OR L"
  | .orAtHl => "OR (HL)"
  | .orA => "OR A"
  | .cpB => "CP B"
  | .cpC => "CP C"
  | .cpD => "CP D"
  | .cpE => "CP E"
  | .cpH => "CP H"
  | .cpL => "CP L"
  | .cpAtHl => "CP (HL)"
  | .cpA => "CP A"
  | .retNz => "RET NZ"
  | .popBc => "POP BC"
  | .jpNzA16 _ => "JP NZ,a16"
  | .jpA16 _ => "JP a16"
  | .callNzA16 _ => "CALL NZ,a16"
  | .pushBc => "PUSH BC"
  | .addAD8 _ => "ADD A,d8"
  | .rst00 => "RST 00H"
  | .retZ => "RET Z"
  | .ret => "RET"
  | .jpZA16 _ => "JP Z,a16"
  | .prefixCb _ => "PREFIX CB"
  | .callZA16 _ => "CALL Z,a16"
  | .callA16 _ => "CALL a16"
  | .adcAD8 _ => "ADC A,d8"
  | .rst08 => "RST 08H"
  | .retNc => "RET NC"
  | .popDe => "POP DE"
  | .jpNcA16 _ => "JP NC,a16"
  | .illegalD3 => "ILLEGAL_D3"
  | .callNcA16 _ => "CALL NC,a16"
  | .pushDe => "PUSH DE"
  | .subD8 _ => "SUB d8"
  | .rst10 => "RST 10H"
  | .retC => "RET C"
  | .reti => "RETI"
  | .jpCA16 _ => "JP C,a16"
  | .illegalDB => "ILLEGAL_DB"
  | .callCA16 _ => "CALL C,a16"
  | .illegalDD => "ILLEGAL_DD"
  | .sbcAD8 _ => "SBC A,d8"
  | .rst18 => "RST 18H"
  | .ldhAtA8A _ => "LDH (a8),A"
  | .popHl => "POP HL"
  | .ldAtCA => "LD (C),A"
  | .illegalE3 => "ILLEGAL_E3"
  | .illegalE4 => "ILLEGAL_E4"
  | .pushHl => "PUSH HL"
  | .andD8 _ => "AND d8"
  | .rst20 => "RST 20H"
  | .addSpE8 _ => "ADD SP,e8"
  | .jpHl => "JP HL"
  | .ldAtA16A _ => "LD (a16),A"
  | .illegalEB => "ILLEGAL_EB"
  | .illegalEC => "ILLEGAL_EC"
  | .illegalED => "ILLEGAL_ED"
  | .xorD8 _ => "XOR d8"
  | .rst28 => "RST 28H"
  | .ldhAAtA8 _ => "LDH A,(a8)"
  | .popAf => "POP AF"
  | .ldAAtC => "LD A,(C)"
  | .di => "DI"
  | .illegalF4 => "ILLEGAL_F4"
  | .pushAf => "PUSH AF"
  | .orD8 _ => "OR d8"
  | .rst30 => "RST 30H"
  | .ldHlSpE8 _ => "LD HL,SP+e8"
  | .ldSpHl => "LD SP,HL"
  | .ldAAtA16 _ => "LD A,(a16)"
  | .ei => "EI"
  | .illegalFC => "ILLEGAL_FC"
  | .illegalFD => "ILLEGAL_FD"
  | .cpD8 _ => "CP d8"
  | .rst38 => "RST 38H"
  | .rlcR _ => "RLC r"
  | .rlcAtHl => "RLC (HL)"
  | .rrcR _ => "RRC r"
  | .rrcAtHl => "RRC (HL)"
  | .rlR _ => "RL r"
  | .rlAtHl => "RL (HL)"
  | .rrR _ => "RR r"
  | .rrAtHl => "RR (HL)"
  | .slaR _ => "SLA r"
  | .slaAtHl => "SLA (HL)"
  | .sraR _ => "SRA r"
  | .sraAtHl => "SRA (HL)"
  | .swapR _ => "SWAP r"
  | .swapAtHl => "SWAP (HL)"
  | .srlR _ => "SRL r"
  | .srlAtHl => "SRL (HL)"
  | .bitR _ _ => "BIT b,r"
  | .bitAtHl _ => "BIT b,(HL)"
  | .resR _ _ => "RES b,r"
  | .resAtHl _ => "RES b,(HL)"
  | .setR _ _ => "SET b,r"
  | .setAtHl _ => "SET b,(HL)"

end Sys2Proof
end

