-- ==== Sys2Proof/Machine/HostStep.lean ====
section
/-! DEFINITION. The host's view of a step and of a run (60_exceptions.md R310, R311, R312). -/

namespace Sys2Proof.Machine

/-- `Ok(cycles)` or `Err(e)` (60_exceptions.md R300). -/
inductive StepReport where
  | ok (cycles : Nat)
  | err (e : CoreError)
  deriving DecidableEq, Repr

/-- The numeric code of an error (60_exceptions.md R300, D13). -/
def CoreError.code : CoreError → Nat
  | .unknownOpcode _ _ => 1
  | .illegalOpcode _ _ => 2
  | .unimplementedOperandCombination _ => 3

/-- `step : State x Bus -> State x Bus x (Ok(n) | Err(e))` (R310): the state after a step and what the step returns.
A step that raises an error leaves its state and returns the error; the cycles returned are the increase of
cycle_count (log entry 13). No arm of exec refuses, so the last case is unreachable (log entry 9). -/
def stepReport (s : State) : State × StepReport :=
  match step s with
  | .next t =>
    match t.mode with
    | .faulted e => (t, .err e)
    | .running => (t, .ok (t.cycleCount - s.cycleCount))
    | .halted => (t, .ok (t.cycleCount - s.cycleCount))
    | .stopped => (t, .ok (t.cycleCount - s.cycleCount))
  | .fault (.coreFaulted e) => (s, .err e)
  | .refused r => (s, .err (.unimplementedOperandCombination r.instruction))

/-- `run(s) = while mode = Running: step(s)`, for at most the given number of steps (R312). A run that still is in
mode Running when they are spent is one the spec calls a hang, or one that needs more steps. -/
def runFor : Nat → State → State
  | 0, s => s
  | n + 1, s =>
    match s.mode with
    | .running => runFor n (stepReport s).1
    | .halted => s
    | .stopped => s
    | .faulted _ => s

end Sys2Proof.Machine
end

