-- ==== Sys2Proof/Safety.lean ====
section
/-! DEFINITION. What counts as a good state and as a good or bad end of a run (60_exceptions.md R312). -/

namespace Sys2Proof.Machine

/-- The eleven illegal bytes (30_encoding.md R101). -/
def illegalBytes : List Byte := Row.illegal.map Prod.snd

/-- The states the machine can be in. -/
structure State.Inv (s : State) : Prop where
  /-- "No operation can leave F's low nibble non-zero" (10_state.md R23). -/
  lowNibbleZero : s.f &&& 0x0F = 0
  /-- Memory is in its canonical form. -/
  memoryCanonical : s.bus.mem.wf = true
  /-- The only error is IllegalOpcode, of one of the eleven bytes, fetched just before PC: the other two outcomes are
  unreachable (60_exceptions.md R301, R303, R306). -/
  onlyIllegalFaults : ∀ err, s.mode = .faulted err → ∃ op ∈ illegalBytes, err = .illegalOpcode op (s.pc - 1)

/-- "A run ends well when mode is Halted or Stopped" (R312). -/
def State.endedWell (s : State) : Bool := s.mode == .halted || s.mode == .stopped

/-- "A run ends badly when mode is Faulted(e), and the run returns e" (R312). -/
def State.endedBadly (s : State) : Option CoreError :=
  match s.mode with
  | .faulted e => some e
  | .running => none
  | .halted => none
  | .stopped => none

end Sys2Proof.Machine
end

