-- ==== Sys2Proof/Certificates/Slice0/Obligations.lean ====
section
/-! DEFINITION. The statements for the provers. A statement about an instruction speaks of the state `s` in which its
bytes have been fetched, so that PC is the fall-through address (10_state.md R36), and of the state `t` that exec
answers; `StepRunsDecodedInstruction` joins the two to a step. The first part names what the statements say again and
again: the bytes of an encoding, the operand an instruction reads, what it keeps, what it stores, its bus accesses. -/

open Sys2Proof Sys2Proof.Machine

namespace Sys2Proof.Claim

/-! ### Fields of an opcode byte -/

/-- The index of a register in an `r` field (30_encoding.md R84). -/
def regCode : Reg8 → Byte
  | .b => 0
  | .c => 1
  | .d => 2
  | .e => 3
  | .h => 4
  | .l => 5
  | .a => 7

/-- The index of an operand in a `z` field: 6 is (HL) (R84). -/
def locCode : Loc8 → Byte
  | .reg r => regCode r
  | .atHl => 6

/-- The pair field (R85). -/
def pairCode : Pair → Byte
  | .bc => 0
  | .de => 1
  | .hl => 2
  | .sp => 3

/-- The pair field of PUSH and POP (R86). -/
def stackPairCode : StackPair → Byte
  | .bc => 0
  | .de => 1
  | .hl => 2
  | .af => 3

/-- The condition field (R87). -/
def condCode : Cond → Byte
  | .nz => 0
  | .z => 1
  | .nc => 2
  | .c => 3

/-- The bytes of an 8-bit ALU instruction with operation field `y` (R88, 41_alu8.md R110). -/
def aluBytes (y : Byte) : Src8 → List Byte
  | .reg r => [0x80 + 8 * y + regCode r]
  | .atHl => [0x80 + 8 * y + 6]
  | .imm n => [0xC6 + 8 * y, n]

/-- The two bytes of a word in the instruction stream, low byte first (R90). -/
def wordBytes (w : Word) : List Byte := [BitVec.ofNat 8 w.toNat, BitVec.ofNat 8 (w.toNat / 256)]

/-! ### What the bus answers -/

/-- The byte a read of an address answers now. -/
def answer (s : State) (a : Word) : Byte := (s.bus.read a).1

/-- The byte a read of `a2` answers after a read of `a1`. -/
def secondAnswer (s : State) (a1 a2 : Word) : Byte := ((s.bus.read a1).2.read a2).1

/-- The word that a read of the low byte at `a` and then of the high byte at `a + 1` gives (20_memory.md R54). -/
def wordAnswer (s : State) (a : Word) : Word :=
  BitVec.ofNat 16 (256 * (secondAnswer s a (a + 1)).toNat + (answer s a).toNat)

/-- The two reads of such a word. -/
def wordReads (s : State) (a : Word) : List BusAccess :=
  [.read a (answer s a), .read (a + 1) (secondAnswer s a (a + 1))]

/-- `n` reads from an address on: the bytes, and the bus after them. -/
def busReads (bus : Bus) (a : Word) : Nat → List Byte × Bus
  | 0 => ([], bus)
  | n + 1 => ((bus.read a).1 :: (busReads (bus.read a).2 (a + 1) n).1, (busReads (bus.read a).2 (a + 1) n).2)

/-- The operand byte of an 8-bit ALU instruction (41_alu8.md R110). -/
def operand (s : State) : Src8 → Byte
  | .reg r => s.reg8 r
  | .atHl => answer s s.hl
  | .imm n => n

/-- The bus accesses that reading it takes, the fetch of an immediate apart. -/
def operandReads (s : State) : Src8 → List BusAccess
  | .reg _ => []
  | .atHl => [.read s.hl (answer s s.hl)]
  | .imm _ => []

/-- The total cycles of an ALU instruction: 4 in the register form, else 8. -/
def operandCycles : Src8 → Nat
  | .reg _ => 4
  | .atHl => 8
  | .imm _ => 8

/-- The byte `get(z)` reads (43_rotate_shift.md R170). -/
def locByte (s : State) : Loc8 → Byte
  | .reg r => s.reg8 r
  | .atHl => answer s s.hl

/-! ### What an instruction keeps and what it writes -/

/-- Every register but the listed ones is unchanged. -/
def KeepsRegs (written : List Reg8) (s t : State) : Prop := ∀ r, r ∉ written → t.reg8 r = s.reg8 r

/-- F is unchanged. -/
def KeepsFlags (s t : State) : Prop := t.f = s.f

/-- The four flags, Z N H C, and the low nibble of F, which is 0. -/
def FlagsAre (t : State) (z n h c : Bool) : Prop :=
  t.f.getLsbD 7 = z ∧ t.f.getLsbD 6 = n ∧ t.f.getLsbD 5 = h ∧ t.f.getLsbD 4 = c ∧ t.f &&& 0x0F = 0

/-- ime and mode are unchanged. -/
def KeepsImeMode (s t : State) : Prop := t.ime = s.ime ∧ t.mode = s.mode

/-- SP, PC, ime and mode are unchanged. -/
def KeepsControl (s t : State) : Prop := t.sp = s.sp ∧ t.pc = s.pc ∧ KeepsImeMode s t

/-- Every byte of memory reads as before. -/
def KeepsMemory (s t : State) : Prop := ∀ a, t.byteAt a = s.byteAt a

/-- Exactly these bus accesses were made, in this order, and the bus's windows are as before (20_memory.md R58). -/
def Accesses (s t : State) (accesses : List BusAccess) : Prop :=
  t.bus.trace = accesses.reverse ++ s.bus.trace ∧ t.bus.regions = s.bus.regions

/-- One byte is stored at `addr`: there, memory holds it where the bus treats the address as RAM, and is as before
where it does not (20_memory.md R52); every other byte of memory reads as before. -/
def StoresByte (s t : State) (addr : Word) (v : Byte) : Prop :=
  t.byteAt addr = (if s.bus.kindAt addr = .ram then v else s.byteAt addr) ∧ ∀ a, a ≠ addr → t.byteAt a = s.byteAt a

/-- Two bytes are stored, `lo` at `addr` and `hi` at `addr + 1`; every other byte of memory reads as before. -/
def StoresPair (s t : State) (addr : Word) (lo hi : Byte) : Prop :=
  t.byteAt addr = (if s.bus.kindAt addr = .ram then lo else s.byteAt addr) ∧
  t.byteAt (addr + 1) = (if s.bus.kindAt (addr + 1) = .ram then hi else s.byteAt (addr + 1)) ∧
  ∀ a, a ≠ addr → a ≠ addr + 1 → t.byteAt a = s.byteAt a

/-- `put(z, v)` after `get(z)`: the operand holds `v`, every other register and byte of memory is as before, and the
(HL) form makes one read and then one write at HL (43_rotate_shift.md R170). -/
def ReadsAndPuts (s t : State) (z : Loc8) (v : Byte) : Prop :=
  match z with
  | .reg r => t.reg8 r = v ∧ KeepsRegs [r] s t ∧ KeepsMemory s t ∧ Accesses s t []
  | .atHl => KeepsRegs [] s t ∧ StoresByte s t s.hl v ∧ Accesses s t [.read s.hl (answer s s.hl), .write s.hl v]

/-- A pair holds a word: its high byte and its low byte, or SP (10_state.md R21). -/
def PairHolds (t : State) (p : Pair) (w : Word) : Prop :=
  match p with
  | .bc => t.b.toNat = w.toNat / 256 ∧ t.c.toNat = w.toNat % 256
  | .de => t.d.toNat = w.toNat / 256 ∧ t.e.toNat = w.toNat % 256
  | .hl => t.h.toNat = w.toNat / 256 ∧ t.l.toNat = w.toNat % 256
  | .sp => t.sp = w

/-- The registers of a pair. -/
def pairRegs : Pair → List Reg8
  | .bc => [.b, .c]
  | .de => [.d, .e]
  | .hl => [.h, .l]
  | .sp => []

/-- SP is unchanged by a write of any pair but SP. -/
def KeepsSpUnless (p : Pair) (s t : State) : Prop := p = .sp ∨ t.sp = s.sp

/-- The total charge of the instruction: 4 cycles for each byte fetched and what executing adds
(70_reset_and_hazards.md R350, R353). -/
def TotalCycles (i : Instr) (s t : State) (n : Nat) : Prop :=
  t.cycleCount + 4 * (encode i).length = s.cycleCount + n

/-- `cond(cc)` on the bits of F (47_control.md R250). -/
def Holds (s : State) : Cond → Prop
  | .nz => s.f.getLsbD 7 = false
  | .z => s.f.getLsbD 7 = true
  | .nc => s.f.getLsbD 4 = false
  | .c => s.f.getLsbD 4 = true

/-- A flag's policy is kept (10_state.md R25). -/
def EffectHolds : FlagEffect → Bool → Bool → Prop
  | .set, _, after => after = true
  | .reset, _, after => after = false
  | .computed, _, _ => True
  | .unaffected, before, after => after = before

/-- The instructions that write ime (10_state.md R30). -/
def WritesIme (i : Instr) : Prop := i = .di ∨ i = .ei ∨ i = .reti

/-- The value of the last write to an address in a list of accesses, newest first. -/
def lastWrite (a : Word) : List BusAccess → Option Byte
  | [] => none
  | .write k v :: older => if k = a then some v else lastWrite a older
  | .read _ _ :: older => lastWrite a older

end Sys2Proof.Claim

open Sys2Proof.Claim

/-! ### Encoding -/

/-- Words written out from the spec's encodings, one or more of every family, decode to their instruction
(30_encoding.md R95, R96). -/
def Obligations.WrittenWordsDecode : Prop :=
  decode [0b10000000] = .ok (.addAB, []) ∧                      -- 10000zzz, z = 000: ADD A,B (R112)
  decode [0b11011110, 0x3A] = .ok (.sbcAD8 0x3A, []) ∧          -- 0xDE d8: SBC A,d8 (R123)
  decode [0b00101101] = .ok (.decL, []) ∧                       -- 00yyy101, y = 101: DEC L (R138)
  decode [0b00111001] = .ok (.addHlSp, []) ∧                    -- 00pp1001, p = 11: ADD HL,SP (R153)
  decode [0b11111000, 0xFE] = .ok (.ldHlSpE8 0xFE, []) ∧        -- 0xF8 e8: LD HL,SP+e8 (R155)
  decode [0b00010111] = .ok (.rla, []) ∧                        -- 0x17: RLA (R173)
  decode [0xCB, 0b00110111] = .ok (.swapR .a, []) ∧             -- 00110zzz, z = 111: SWAP A (R187)
  decode [0xCB, 0b00101110] = .ok (.sraAtHl, []) ∧              -- CB 2E: SRA (HL) (R186)
  decode [0xCB, 0b01111100] = .ok (.bitR 7 .h, []) ∧            -- 01bbbzzz, b = 111, z = 100: BIT 7,H (R191)
  decode [0xCB, 0b11011011] = .ok (.setR 3 .e, []) ∧            -- 11bbbzzz, b = 011, z = 011: SET 3,E (R195)
  decode [0b01111000] = .ok (.ldAB, []) ∧                       -- 01yyyzzz, y = 111, z = 000: LD A,B (R201)
  decode [0b01110110] = .ok (.halt, []) ∧                       -- 0x76: HALT, not LD (HL),(HL) (R98)
  decode [0x01, 0x34, 0x12] = .ok (.ldBcD16 0x1234, []) ∧       -- LD BC,d16 with [0x34,0x12] (R220)
  decode [0b11110101] = .ok (.pushAf, []) ∧                     -- 11pp0101, p = 11: PUSH AF (R242)
  decode [0b11011010, 0x50, 0x01] = .ok (.jpCA16 0x0150, []) ∧  -- 110cc010, cc = 11: JP C,a16 (R253)
  decode [0b11110111] = .ok (.rst30, []) ∧                      -- 11yyy111, y = 110: RST 30H (R263)
  decode [0x10, 0xA5] = .ok (.stop 0xA5, []) ∧                  -- 10 xx: STOP (R282)
  decode [0xDB] = .ok (.illegalDB, [])                          -- an illegal byte (R101)

/-- Decoding inverts encoding: no operand bit of any instruction is dropped (30_encoding.md R81, R90). -/
def Obligations.DecodeInvertsEncode : Prop :=
  ∀ (i : Instr) (rest : List Byte), i.wellFormed = true → decode (encode i ++ rest) = .ok (i, rest)

/-- Encoding inverts decoding: every decoded byte sequence has one meaning, and it is well-formed. -/
def Obligations.EncodeInvertsDecode : Prop :=
  ∀ (bytes rest : List Byte) (i : Instr),
    decode bytes = .ok (i, rest) → i.wellFormed = true ∧ encode i ++ rest = bytes

/-- No first byte misses: any three bytes begin with an instruction (30_encoding.md R92; 60_exceptions.md R301). -/
def Obligations.DecodeNeverMisses : Prop :=
  ∀ (op x y : Byte) (more : List Byte), ∃ i rest, decode (op :: x :: y :: more) = .ok (i, rest)

/-- The illegal opcodes are exactly eleven bytes, each with a row that raises IllegalOpcode with the byte and the
address it was fetched from, for 4 cycles, and changes nothing but the mode (30_encoding.md R101, 48_system.md R286,
60_exceptions.md R302, R305, R306, 70_reset_and_hazards.md R355, the spec's decision D12). That exec answers a next
state in mode Faulted is the model's choice: log entry 5. -/
def Obligations.IllegalBytesAreExactlyEleven : Prop :=
  ∀ (op : Byte) (bytes : List Byte),
    (op ∈ [0xD3, 0xDB, 0xDD, 0xE3, 0xE4, 0xEB, 0xEC, 0xED, 0xF4, 0xFC, 0xFD] →
      ∃ i, (i, op) ∈ Row.illegal ∧ encode i = [op] ∧ decode (op :: bytes) = .ok (i, bytes) ∧
        ∀ s, ∃ t, exec i s = .next t ∧ t = { s with mode := .faulted (.illegalOpcode op (s.pc - 1)) } ∧
          TotalCycles i s t 4) ∧
    (op ∉ [0xD3, 0xDB, 0xDD, 0xE3, 0xE4, 0xEB, 0xEC, 0xED, 0xF4, 0xFC, 0xFD] →
      ∀ i rest, decode (op :: bytes) = .ok (i, rest) → ∀ b, (i, b) ∉ Row.illegal)

/-- The first byte alone fixes the length: 1, 2 or 3; 2 for the CB prefix, 2 for STOP (the spec's decision D9), else the
table's (30_encoding.md R80). -/
def Obligations.FirstByteFixesLength : Prop :=
  ∀ (op : Byte) (xs ys rest rest' : List Byte) (i j : Instr),
    decode (op :: xs) = .ok (i, rest) → decode (op :: ys) = .ok (j, rest') →
      (encode i).length = (encode j).length ∧ (encode i).length = i.length ∧
      1 ≤ i.length ∧ i.length ≤ 3 ∧ (op = 0xCB → i.length = 2) ∧ (op = 0x10 → i.length = 2)

/-- The CB prefix runs the instruction its second byte selects in the CB table, for every second byte, and does so with
a next state (48_system.md R283, 30_encoding.md R83). That the row prefixCb, which no step runs, has the selected
instruction's meaning is the model's choice: log entry 6. -/
def Obligations.PrefixRunsSelectedInstruction : Prop :=
  ∀ (cbop : Byte) (more : List Byte), ∃ i, decode (0xCB :: cbop :: more) = .ok (i, more) ∧
    ∀ s, ∃ t, exec i s = .next t ∧ exec (.prefixCb cbop) s = .next t

/-! ### Steps -/

/-- A running step executes the instruction at PC: when the bytes the bus answers from PC on are the encoding of a
well-formed instruction, the step is exec of it, in the state whose PC has moved past them, with 4 cycles charged for
each and the bus as those reads leave it (30_encoding.md R91, 20_memory.md R58). -/
def Obligations.StepRunsDecodedInstruction : Prop :=
  ∀ (s : State) (i : Instr) (bus : Bus), s.mode = .running → i.wellFormed = true →
    busReads s.bus s.pc (encode i).length = (encode i, bus) →
      step s = exec i { s with pc := s.pc + BitVec.ofNat 16 (encode i).length
                               cycleCount := s.cycleCount + 4 * (encode i).length
                               bus := bus }

/-- Fetch goes through the same memory as data, at the moment of the fetch: where PC points into RAM that holds the
bytes of an instruction, whoever wrote them, the step executes it, and the fetch makes one read for each byte, in order,
and changes no byte of memory (20_memory.md R58, R63, R65, the latter the spec's decision D17). -/
def Obligations.StepFetchesFromMemory : Prop :=
  ∀ (s : State) (i : Instr), s.mode = .running → i.wellFormed = true →
    (∀ k, (hk : k < (encode i).length) → s.bus.kindAt (s.pc + BitVec.ofNat 16 k) = .ram ∧
      s.byteAt (s.pc + BitVec.ofNat 16 k) = (encode i)[k]) →
      step s = exec i
        { s with pc := s.pc + BitVec.ofNat 16 (encode i).length
                 cycleCount := s.cycleCount + 4 * (encode i).length
                 bus := { s.bus with trace :=
                   ((List.finRange (encode i).length).map fun k =>
                     BusAccess.read (s.pc + BitVec.ofNat 16 k.val) (encode i)[k]).reverse ++ s.bus.trace } }

/-- A step of a halted or stopped core is one idle cycle: 4 cycles, no bus access, every register and memory kept, and
Running again exactly when the wake input holds; it reports Ok(4). For every wake input: `Config.wake` is a free value,
asked of the state after the idle cycle (log entry 4) (60_exceptions.md R311, R335 and 70_reset_and_hazards.md R356, the
spec's decision D14). -/
def Obligations.HaltedStepIdles : Prop :=
  ∀ s : State, s.mode = .halted ∨ s.mode = .stopped →
    ∃ t, step s = .next t ∧ stepReport s = (t, .ok 4) ∧
      t = { s with cycleCount := s.cycleCount + 4
                   mode := if Config.wake { s with cycleCount := s.cycleCount + 4 } then .running else s.mode }

/-- A step of a faulted core changes nothing and returns the same error, however often it is made; it is no successful
end (60_exceptions.md R306, R311, the spec's decision D14; the outcome `fault` is log entry 5). -/
def Obligations.FaultedStepReturnsError : Prop :=
  ∀ (s : State) (e : CoreError), s.mode = .faulted e →
    step s = .fault (.coreFaulted e) ∧ stepReport s = (s, .err e) ∧
    s.endedWell = false ∧ s.endedBadly = some e ∧ ∀ n, runFor n s = s

/-- A running step that fetches an illegal byte makes one read, moves PC on by 1, charges 4 cycles, records the byte and
its address in the mode, changes nothing else, and returns the error (60_exceptions.md R302, R305, R306, the spec's
decision D12; log entry 5). -/
def Obligations.IllegalStepFaults : Prop :=
  ∀ (s : State) (op : Byte), s.mode = .running → op ∈ illegalBytes → answer s s.pc = op →
    ∃ t, step s = .next t ∧ stepReport s = (t, .err (.illegalOpcode op s.pc)) ∧
      t = { s with pc := s.pc + 1
                   cycleCount := s.cycleCount + 4
                   mode := .faulted (.illegalOpcode op s.pc)
                   bus := { s.bus with trace := .read s.pc op :: s.bus.trace } }

/-- A running step that raises no error reports the increase of cycle_count, and that is the table's total for the
instruction it decodes: the taken total where its condition holds in the state before the step, else the other
(60_exceptions.md R310, 70_reset_and_hazards.md R353, R354; the totals are the spec's decision D5). -/
def Obligations.StepReportsTableCycles : Prop :=
  ∀ (s t : State) (n : Nat), s.mode = .running → stepReport s = (t, .ok n) →
    t.cycleCount = s.cycleCount + n ∧
    ∃ i cost, decode s.fetchInstr.1 = .ok (i, []) ∧ i.cycles = some cost ∧
      ((∀ cc, i.condition = some cc → Holds s cc) → n = cost.taken) ∧
      (∀ cc, i.condition = some cc → ¬ Holds s cc → n = cost.notTaken)

/-- A run stops at the first state whose mode is not Running: more steps change nothing (60_exceptions.md R312). -/
def Obligations.RunStopsOutsideRunning : Prop :=
  ∀ (s : State) (m n : Nat), (runFor n s).mode ≠ .running → runFor (n + m) s = runFor n s

/-! ### Reset and invariants -/

/-- The state after power-on (10_state.md R38, 70_reset_and_hazards.md R340; cycle_count = 0 is the spec's decision
D21). The empty memory and window lists are the model's choice: log entries 1 and 2. -/
def Obligations.ResetState : Prop :=
  (∀ r, State.reset.reg8 r = 0x00) ∧ State.reset.f = 0x00 ∧ State.reset.sp = 0xFFFE ∧ State.reset.pc = 0x0100 ∧
  State.reset.ime = true ∧ State.reset.mode = .running ∧ State.reset.cycleCount = 0 ∧
  State.reset.af = 0x0000 ∧ (∀ p, p ≠ .sp → State.reset.pair p = 0x0000) ∧
  ∀ a, State.reset.bus.kindAt a = .ram ∧ State.reset.byteAt a = 0x00

/-- The invariant holds after power-on. -/
def Obligations.ResetSatisfiesInvariant : Prop := State.reset.Inv

/-- Every step keeps the invariant: the low nibble of F is 0, memory is in its canonical form, and the only error ever
recorded is IllegalOpcode, of one of the eleven bytes, fetched just before PC (10_state.md R23; 60_exceptions.md R301,
R303, R306). -/
def Obligations.StepKeepsInvariant : Prop :=
  ∀ s t : State, s.Inv → step s = .next t → t.Inv

/-- "No operation can leave F's low nibble non-zero": F and AF read with a zero low nibble, every write of F stores
`v & 0xF0`, and every instruction keeps the low nibble zero (10_state.md R23). -/
def Obligations.LowNibbleOfFIsZero : Prop :=
  (∀ s : State, s.readF &&& 0x0F = 0 ∧ s.af &&& 0x000F = 0) ∧
  (∀ (s : State) (v : Byte), (s.writeF v).f = v &&& 0xF0) ∧
  (∀ (s : State) (w : Word), ((s.setStackPair .af w).f).toNat = w.toNat % 256 - w.toNat % 16) ∧
  ∀ (i : Instr) (s : State), s.f &&& 0x0F = 0 → ∃ t, exec i s = .next t ∧ t.f &&& 0x0F = 0

/-- The flag policy of every row holds: a flag the table calls set is 1 after, reset is 0, unaffected is as before
(10_state.md R25, and the flags column of opcode_table.json). -/
def Obligations.FlagPolicyHolds : Prop :=
  ∀ (i : Instr) (policy : FlagPolicy) (s : State), i.flagPolicy = some policy →
    ∃ t, exec i s = .next t ∧ EffectHolds policy.z s.zf t.zf ∧ EffectHolds policy.n s.nf t.nf ∧
      EffectHolds policy.h s.hf t.hf ∧ EffectHolds policy.c s.cf t.cf

/-- The cycles of an instruction are 4 for each bus access and 4 for each internal cycle, of which there are at most
two; the trace only grows, and the bus's windows stay (70_reset_and_hazards.md R350, R351, R353). -/
def Obligations.CyclesAreAccessesAndInternal : Prop :=
  ∀ (i : Instr) (s : State), ∃ t accesses internal, exec i s = .next t ∧ internal ≤ 2 ∧
    t.bus.trace = accesses ++ s.bus.trace ∧ t.bus.regions = s.bus.regions ∧
    t.cycleCount = s.cycleCount + 4 * (accesses.length + internal)

/-- cycle_count increases at every step, and no instruction reads it: started from another count, an instruction does
the same and adds the same (10_state.md R32). -/
def Obligations.CycleCountOnlyCounts : Prop :=
  (∀ s t : State, step s = .next t → s.cycleCount < t.cycleCount) ∧
  ∀ (i : Instr) (s : State) (n : Nat), ∃ t, exec i s = .next t ∧ s.cycleCount ≤ t.cycleCount ∧
    exec i { s with cycleCount := n } = .next { t with cycleCount := n + (t.cycleCount - s.cycleCount) }

/-- ime is written only by DI (0), EI and RETI (1), and read by no instruction: started with another ime, an instruction
does the same (10_state.md R30; that nothing in the block reads it is the spec's decision D16). -/
def Obligations.ImeIsWrittenByThreeAndReadByNone : Prop :=
  ∀ (i : Instr) (s : State) (v : Bool), ∃ t, exec i s = .next t ∧
    (¬ WritesIme i → t.ime = s.ime ∧ exec i { s with ime := v } = .next { t with ime := v }) ∧
    (WritesIme i → (t.ime = true ↔ i ≠ .di) ∧ exec i { s with ime := v } = .next t)

/-- Only HALT, STOP and the illegal bytes change the mode, to Halted, Stopped and Faulted(IllegalOpcode) of the byte and
its address; every other instruction completes with no error (10_state.md R31, 48_system.md R281, R282, R286,
60_exceptions.md R302, R304, R305, the spec's decision D7). That exec answers a next state in mode Faulted is the model's
choice: log entry 5. -/
def Obligations.ModeWriters : Prop :=
  ∀ (i : Instr) (s : State), ∃ t, exec i s = .next t ∧
    (i = .halt → t.mode = .halted) ∧ ((∃ x, i = .stop x) → t.mode = .stopped) ∧
    (∀ op, (i, op) ∈ Row.illegal → t.mode = .faulted (.illegalOpcode op (s.pc - 1))) ∧
    (i ≠ .halt → (∀ x, i ≠ .stop x) → (∀ op, (i, op) ∉ Row.illegal) → t.mode = s.mode)

/-- The memory model is sequential: in RAM, after any step, every byte is the last one written there in the step's
accesses, or as before the step; and every read in the step answered the byte as all earlier accesses left it
(20_memory.md R63, R66). -/
def Obligations.MemoryHoldsLastWrite : Prop :=
  ∀ s t : State, (∀ a, s.bus.kindAt a = .ram) → step s = .next t →
    ∃ accesses, t.bus.trace = accesses ++ s.bus.trace ∧
      (∀ a, t.byteAt a = (lastWrite a accesses).getD (s.byteAt a)) ∧
      ∀ newer older a v, accesses = newer ++ .read a v :: older → v = (lastWrite a older).getD (s.byteAt a)

/-- The bus port never fails: a read answers a byte and changes no memory, a write is accepted everywhere, stores in RAM
and is ignored in a read-only window; both are recorded. RAM and read-only addresses answer the byte of memory
(20_memory.md R51, R52, R66; the windows are the model's: log entry 2). -/
def Obligations.BusContract : Prop :=
  ∀ (s : State) (a : Word) (v : Byte),
    (s.memRead a).2.cycleCount = s.cycleCount + 4 ∧ KeepsMemory s (s.memRead a).2 ∧
    Accesses s (s.memRead a).2 [.read a (s.memRead a).1] ∧
    (s.bus.kindAt a ≠ .external → (s.memRead a).1 = s.byteAt a) ∧
    (s.memWrite a v).cycleCount = s.cycleCount + 4 ∧ StoresByte s (s.memWrite a v) a v ∧
    Accesses s (s.memWrite a v) [.write a v]

/-! ### 8-bit arithmetic and logic (41_alu8.md) -/

/-- ADD and ADC, register, (HL) and d8: the exact sum modulo 2^8, Z from the result, N 0, H and C the carries out of
bits 3 and 7; the carry in counts in ADC only (R112 to R117). -/
def Obligations.AddAndAdcResult : Prop :=
  ∀ (withCarry : Bool) (src : Src8) (s : State), ∃ t,
    let i := Row.alu (if withCarry then .adc else .add) src
    let n := operand s src
    let cin := if withCarry && s.f.getLsbD 4 then 1 else 0
    let sum := s.a.toNat + n.toNat + cin
    exec i s = .next t ∧ encode i = aluBytes (if withCarry then 1 else 0) src ∧ t.a.toNat = sum % 256 ∧
    FlagsAre t (t.a == 0) false (decide (s.a.toNat % 16 + n.toNat % 16 + cin > 15)) (decide (sum > 255)) ∧
    KeepsRegs [.a] s t ∧ KeepsControl s t ∧ KeepsMemory s t ∧ Accesses s t (operandReads s src) ∧
    TotalCycles i s t (operandCycles src)

/-- SUB and SBC, register, (HL) and d8: the exact difference modulo 2^8, Z from the result, N 1, H and C the borrows;
the carry counts in SBC only (R118 to R123). -/
def Obligations.SubAndSbcResult : Prop :=
  ∀ (withCarry : Bool) (src : Src8) (s : State), ∃ t,
    let i := Row.alu (if withCarry then .sbc else .sub) src
    let n := operand s src
    let cin := if withCarry && s.f.getLsbD 4 then 1 else 0
    exec i s = .next t ∧ encode i = aluBytes (if withCarry then 3 else 2) src ∧
    t.a.toNat = (s.a.toNat + 512 - n.toNat - cin) % 256 ∧
    FlagsAre t (t.a == 0) true (decide (s.a.toNat % 16 < n.toNat % 16 + cin)) (decide (s.a.toNat < n.toNat + cin)) ∧
    KeepsRegs [.a] s t ∧ KeepsControl s t ∧ KeepsMemory s t ∧ Accesses s t (operandReads s src) ∧
    TotalCycles i s t (operandCycles src)

/-- AND, XOR and OR, register, (HL) and d8: bit by bit, Z from the result, N 0, H 1 for AND and 0 for XOR and OR, C 0
(R124 to R132). -/
def Obligations.LogicResult : Prop :=
  ∀ (src : Src8) (s : State),
    (∃ t, exec (Row.alu .and src) s = .next t ∧ encode (Row.alu .and src) = aluBytes 4 src ∧
      (∀ k, t.a.getLsbD k = (s.a.getLsbD k && (operand s src).getLsbD k)) ∧ FlagsAre t (t.a == 0) false true false ∧
      KeepsRegs [.a] s t ∧ KeepsControl s t ∧ KeepsMemory s t ∧ Accesses s t (operandReads s src) ∧
      TotalCycles (Row.alu .and src) s t (operandCycles src)) ∧
    (∃ t, exec (Row.alu .xor src) s = .next t ∧ encode (Row.alu .xor src) = aluBytes 5 src ∧
      (∀ k, t.a.getLsbD k = (s.a.getLsbD k != (operand s src).getLsbD k)) ∧ FlagsAre t (t.a == 0) false false false ∧
      KeepsRegs [.a] s t ∧ KeepsControl s t ∧ KeepsMemory s t ∧ Accesses s t (operandReads s src) ∧
      TotalCycles (Row.alu .xor src) s t (operandCycles src)) ∧
    (∃ t, exec (Row.alu .or src) s = .next t ∧ encode (Row.alu .or src) = aluBytes 6 src ∧
      (∀ k, t.a.getLsbD k = (s.a.getLsbD k || (operand s src).getLsbD k)) ∧ FlagsAre t (t.a == 0) false false false ∧
      KeepsRegs [.a] s t ∧ KeepsControl s t ∧ KeepsMemory s t ∧ Accesses s t (operandReads s src) ∧
      TotalCycles (Row.alu .or src) s t (operandCycles src))

/-- CP, register, (HL) and d8: the flags of A - n, and A not written (R133 to R135). -/
def Obligations.CompareResult : Prop :=
  ∀ (src : Src8) (s : State), ∃ t,
    let n := operand s src
    exec (Row.alu .cp src) s = .next t ∧ encode (Row.alu .cp src) = aluBytes 7 src ∧
    FlagsAre t (decide (s.a = n)) true (decide (s.a.toNat % 16 < n.toNat % 16)) (decide (s.a.toNat < n.toNat)) ∧
    KeepsRegs [] s t ∧ KeepsControl s t ∧ KeepsMemory s t ∧ Accesses s t (operandReads s src) ∧
    TotalCycles (Row.alu .cp src) s t (operandCycles src)

/-- INC and DEC of a register or of the byte at HL: the operand plus or minus 1 modulo 2^8, Z from the result, N 0 for
INC and 1 for DEC, H from the affected byte, C unaffected (R136 to R139). -/
def Obligations.IncAndDec8Result : Prop :=
  ∀ (z : Loc8) (s : State),
    (∃ t, exec (Row.inc8 z) s = .next t ∧ encode (Row.inc8 z) = [0x04 + 8 * locCode z] ∧
      ReadsAndPuts s t z (BitVec.ofNat 8 ((locByte s z).toNat + 1)) ∧
      FlagsAre t (decide ((locByte s z).toNat = 255)) false (decide ((locByte s z).toNat % 16 = 15)) s.cf ∧
      KeepsControl s t ∧ TotalCycles (Row.inc8 z) s t (if z = .atHl then 12 else 4)) ∧
    (∃ t, exec (Row.dec8 z) s = .next t ∧ encode (Row.dec8 z) = [0x05 + 8 * locCode z] ∧
      ReadsAndPuts s t z (BitVec.ofNat 8 ((locByte s z).toNat + 255)) ∧
      FlagsAre t (decide ((locByte s z).toNat = 1)) true (decide ((locByte s z).toNat % 16 = 0)) s.cf ∧
      KeepsControl s t ∧ TotalCycles (Row.dec8 z) s t (if z = .atHl then 12 else 4))

/-- DAA: the correction 0x06 on a half-carry or a low digit above 9 after an addition, 0x60 on a carry or a value above
0x99 after an addition; added after an addition, subtracted after a subtraction; flags `Z - 0 C` (R140). -/
def Obligations.DaaResult : Prop :=
  ∀ s : State, ∃ t,
    let low := if s.hf = true ∨ (s.nf = false ∧ s.a.toNat % 16 > 9) then 0x06 else 0x00
    let high := if s.cf = true ∨ (s.nf = false ∧ s.a.toNat > 0x99) then 0x60 else 0x00
    exec .daa s = .next t ∧ encode .daa = [0x27] ∧
    (s.nf = false → t.a.toNat = (s.a.toNat + (low + high)) % 256) ∧
    (s.nf = true → t.a.toNat = (s.a.toNat + 256 - (low + high)) % 256) ∧
    FlagsAre t (t.a == 0) s.nf false (decide (high = 0x60)) ∧
    KeepsRegs [.a] s t ∧ KeepsControl s t ∧ KeepsMemory s t ∧ Accesses s t [] ∧ TotalCycles .daa s t 4

/-- What DAA is for: after ADD A,B of two packed decimal bytes it leaves their decimal sum modulo 100 with C set when
the sum is 100 or more, and after SUB B their decimal difference modulo 100 with C set on a borrow (derived from R112,
R118 and R140). -/
def Obligations.DaaAdjustsDecimalSums : Prop :=
  ∀ (s : State) (x y : Nat), x < 100 → y < 100 →
    s.a.toNat = 16 * (x / 10) + x % 10 → s.b.toNat = 16 * (y / 10) + y % 10 →
    (∃ t u, exec .addAB s = .next t ∧ exec .daa t = .next u ∧
      u.a.toNat = 16 * ((x + y) % 100 / 10) + (x + y) % 10 ∧ u.cf = decide (100 ≤ x + y)) ∧
    (∃ t u, exec .subB s = .next t ∧ exec .daa t = .next u ∧
      u.a.toNat = 16 * ((x + 100 - y) % 100 / 10) + (x + 100 - y) % 10 ∧ u.cf = decide (x < y))

/-- CPL, SCF and CCF (R141 to R143). -/
def Obligations.ComplementAndCarryFlagOps : Prop :=
  ∀ s : State,
    (∃ t, exec .cpl s = .next t ∧ encode .cpl = [0x2F] ∧ t.a.toNat = 255 - s.a.toNat ∧
      FlagsAre t s.zf true true s.cf ∧ KeepsRegs [.a] s t ∧ KeepsControl s t ∧ KeepsMemory s t ∧ Accesses s t [] ∧
      TotalCycles .cpl s t 4) ∧
    (∃ t, exec .scf s = .next t ∧ encode .scf = [0x37] ∧
      FlagsAre t s.zf false false true ∧ KeepsRegs [] s t ∧ KeepsControl s t ∧ KeepsMemory s t ∧ Accesses s t [] ∧
      TotalCycles .scf s t 4) ∧
    (∃ t, exec .ccf s = .next t ∧ encode .ccf = [0x3F] ∧
      FlagsAre t s.zf false false (!s.cf) ∧ KeepsRegs [] s t ∧ KeepsControl s t ∧ KeepsMemory s t ∧ Accesses s t [] ∧
      TotalCycles .ccf s t 4)

/-! ### 16-bit arithmetic (42_alu16.md) -/

/-- INC rr and DEC rr: modulo 2^16, no flag, one internal cycle (R151, R152). -/
def Obligations.IncAndDecPairResult : Prop :=
  ∀ (p : Pair) (s : State),
    (∃ t, exec (Row.incPair p) s = .next t ∧ encode (Row.incPair p) = [0x03 + 16 * pairCode p] ∧
      PairHolds t p (BitVec.ofNat 16 ((s.pair p).toNat + 1)) ∧ KeepsRegs (pairRegs p) s t ∧ KeepsSpUnless p s t ∧
      KeepsFlags s t ∧ t.pc = s.pc ∧ KeepsImeMode s t ∧ KeepsMemory s t ∧ Accesses s t [] ∧
      TotalCycles (Row.incPair p) s t 8) ∧
    (∃ t, exec (Row.decPair p) s = .next t ∧ encode (Row.decPair p) = [0x0B + 16 * pairCode p] ∧
      PairHolds t p (BitVec.ofNat 16 ((s.pair p).toNat + 65535)) ∧ KeepsRegs (pairRegs p) s t ∧ KeepsSpUnless p s t ∧
      KeepsFlags s t ∧ t.pc = s.pc ∧ KeepsImeMode s t ∧ KeepsMemory s t ∧ Accesses s t [] ∧
      TotalCycles (Row.decPair p) s t 8)

/-- ADD HL,rr: the sum modulo 2^16, Z unaffected, N 0, H the carry out of bit 11, C out of bit 15 (R153). -/
def Obligations.AddHlResult : Prop :=
  ∀ (p : Pair) (s : State), ∃ t,
    let sum := s.hl.toNat + (s.pair p).toNat
    exec (Row.addHlPair p) s = .next t ∧ encode (Row.addHlPair p) = [0x09 + 16 * pairCode p] ∧
    PairHolds t .hl (BitVec.ofNat 16 sum) ∧
    FlagsAre t s.zf false (decide (s.hl.toNat % 4096 + (s.pair p).toNat % 4096 > 4095)) (decide (sum > 65535)) ∧
    KeepsRegs [.h, .l] s t ∧ KeepsControl s t ∧ KeepsMemory s t ∧ Accesses s t [] ∧
    TotalCycles (Row.addHlPair p) s t 8

/-- ADD SP,e8 and LD HL,SP+e8: SP plus the signed byte modulo 2^16, Z 0, N 0, and H and C the carries out of bits 3 and
7 of the unsigned sum of the low byte of SP and the raw byte (R154, R155). -/
def Obligations.StackPointerOffsetResult : Prop :=
  ∀ (e : Byte) (s : State),
    let target : Int := (s.sp.toNat : Int) + e.toInt
    let half := decide (s.sp.toNat % 16 + e.toNat % 16 > 15)
    let carry := decide (s.sp.toNat % 256 + e.toNat > 255)
    (∃ t, exec (.addSpE8 e) s = .next t ∧ encode (.addSpE8 e) = [0xE8, e] ∧ (t.sp.toNat : Int) = target % 65536 ∧
      FlagsAre t false false half carry ∧ KeepsRegs [] s t ∧ t.pc = s.pc ∧ KeepsImeMode s t ∧ KeepsMemory s t ∧
      Accesses s t [] ∧ TotalCycles (.addSpE8 e) s t 16) ∧
    (∃ t, exec (.ldHlSpE8 e) s = .next t ∧ encode (.ldHlSpE8 e) = [0xF8, e] ∧
      PairHolds t .hl (BitVec.ofInt 16 target) ∧
      FlagsAre t false false half carry ∧ KeepsRegs [.h, .l] s t ∧ KeepsControl s t ∧ KeepsMemory s t ∧
      Accesses s t [] ∧ TotalCycles (.ldHlSpE8 e) s t 12)

/-! ### Rotates, shifts and SWAP (43_rotate_shift.md) -/

/-- RLCA, RRCA, RLA and RRA: A rotated by one place, circular or through the carry, C the bit rotated out, and Z, N and
H cleared whatever the result (R171 to R174). -/
def Obligations.AccumulatorRotates : Prop :=
  ∀ s : State,
    let keeps := fun (i : Instr) (op : Byte) (t : State) =>
      exec i s = .next t ∧ encode i = [op] ∧ KeepsRegs [.a] s t ∧ KeepsControl s t ∧ KeepsMemory s t ∧
      Accesses s t [] ∧ TotalCycles i s t 4
    let c := if s.cf then 1 else 0
    (∃ t, keeps .rlca 0x07 t ∧ t.a.toNat = (2 * s.a.toNat) % 256 + s.a.toNat / 128 ∧
      FlagsAre t false false false (s.a.getLsbD 7)) ∧
    (∃ t, keeps .rrca 0x0F t ∧ t.a.toNat = s.a.toNat / 2 + 128 * (s.a.toNat % 2) ∧
      FlagsAre t false false false (s.a.getLsbD 0)) ∧
    (∃ t, keeps .rla 0x17 t ∧ t.a.toNat = (2 * s.a.toNat) % 256 + c ∧
      FlagsAre t false false false (s.a.getLsbD 7)) ∧
    (∃ t, keeps .rra 0x1F t ∧ t.a.toNat = s.a.toNat / 2 + 128 * c ∧
      FlagsAre t false false false (s.a.getLsbD 0))

/-- The CB rotates RLC, RRC, RL and RR of a register or of the byte at HL: as the accumulator rotates, but Z is computed
(R175 to R182). -/
def Obligations.CbRotates : Prop :=
  ∀ (z : Loc8) (s : State),
    let v := locByte s z
    let c := if s.cf then 1 else 0
    let does := fun (op : RotOp) (y : Byte) (res : Nat) (out : Bool) => ∃ t, exec (Row.rot op z) s = .next t ∧
      encode (Row.rot op z) = [0xCB, 8 * y + locCode z] ∧ ReadsAndPuts s t z (BitVec.ofNat 8 res) ∧
      FlagsAre t (decide (res = 0)) false false out ∧ KeepsControl s t ∧
      TotalCycles (Row.rot op z) s t (if z = .atHl then 16 else 8)
    does .rlc 0 ((2 * v.toNat) % 256 + v.toNat / 128) (v.getLsbD 7) ∧
    does .rrc 1 (v.toNat / 2 + 128 * (v.toNat % 2)) (v.getLsbD 0) ∧
    does .rl 2 ((2 * v.toNat) % 256 + c) (v.getLsbD 7) ∧
    does .rr 3 (v.toNat / 2 + 128 * c) (v.getLsbD 0)

/-- The CB shifts SLA, SRA and SRL, and SWAP, of a register or of the byte at HL; SRA keeps bit 7, SWAP clears C
(R183 to R190). -/
def Obligations.CbShiftsAndSwap : Prop :=
  ∀ (z : Loc8) (s : State),
    let v := locByte s z
    let does := fun (op : RotOp) (y : Byte) (res : Nat) (out : Bool) => ∃ t, exec (Row.rot op z) s = .next t ∧
      encode (Row.rot op z) = [0xCB, 8 * y + locCode z] ∧ ReadsAndPuts s t z (BitVec.ofNat 8 res) ∧
      FlagsAre t (decide (res = 0)) false false out ∧ KeepsControl s t ∧
      TotalCycles (Row.rot op z) s t (if z = .atHl then 16 else 8)
    does .sla 4 ((2 * v.toNat) % 256) (v.getLsbD 7) ∧
    does .sra 5 (v.toNat / 2 + 128 * (v.toNat / 128)) (v.getLsbD 0) ∧
    does .swap 6 (16 * (v.toNat % 16) + v.toNat / 16) false ∧
    does .srl 7 (v.toNat / 2) (v.getLsbD 0)

/-! ### Bits (44_bit.md) -/

/-- BIT b of a register or of the byte at HL: Z the complement of the bit, N 0, H 1, C unaffected, nothing written
back (R191, R192). -/
def Obligations.BitTestResult : Prop :=
  ∀ (b : BitVec 3) (z : Loc8) (s : State), ∃ t, exec (Row.bit b z) s = .next t ∧
    encode (Row.bit b z) = [0xCB, 0x40 + 8 * b.setWidth 8 + locCode z] ∧
    FlagsAre t (decide ((locByte s z).toNat / 2 ^ b.toNat % 2 = 0)) false true s.cf ∧
    KeepsRegs [] s t ∧ KeepsControl s t ∧ KeepsMemory s t ∧
    Accesses s t (if z = .atHl then [.read s.hl (answer s s.hl)] else []) ∧
    TotalCycles (Row.bit b z) s t (if z = .atHl then 12 else 8)

/-- RES and SET b of a register or of the byte at HL: that bit 0 or 1, every other bit kept, no flag (R193 to R196). -/
def Obligations.ResAndSetResult : Prop :=
  ∀ (b : BitVec 3) (z : Loc8) (s : State),
    (∃ t v, exec (Row.res b z) s = .next t ∧
      encode (Row.res b z) = [0xCB, 0x80 + 8 * b.setWidth 8 + locCode z] ∧ ReadsAndPuts s t z v ∧
      (∀ k, k < 8 → v.getLsbD k = (decide (k ≠ b.toNat) && (locByte s z).getLsbD k)) ∧
      KeepsFlags s t ∧ KeepsControl s t ∧ TotalCycles (Row.res b z) s t (if z = .atHl then 16 else 8)) ∧
    (∃ t v, exec (Row.set b z) s = .next t ∧
      encode (Row.set b z) = [0xCB, 0xC0 + 8 * b.setWidth 8 + locCode z] ∧ ReadsAndPuts s t z v ∧
      (∀ k, k < 8 → v.getLsbD k = (decide (k = b.toNat) || (locByte s z).getLsbD k)) ∧
      KeepsFlags s t ∧ KeepsControl s t ∧ TotalCycles (Row.set b z) s t (if z = .atHl then 16 else 8))

/-! ### Loads and stores (45_load.md) -/

/-- LD r,r': the destination takes the source, a self-copy changes nothing; no flag, no access (R201). -/
def Obligations.LoadRegisterFromRegister : Prop :=
  ∀ (dst src : Reg8) (s : State), ∃ t, exec (Row.ldRR dst src) s = .next t ∧
    encode (Row.ldRR dst src) = [0x40 + 8 * regCode dst + regCode src] ∧ t.reg8 dst = s.reg8 src ∧
    (dst = src → t = s) ∧ KeepsRegs [dst] s t ∧ KeepsFlags s t ∧ KeepsControl s t ∧ KeepsMemory s t ∧
    Accesses s t [] ∧ TotalCycles (Row.ldRR dst src) s t 4

/-- LD r,d8 and LD (HL),d8 (R202, R205). -/
def Obligations.LoadImmediateByte : Prop :=
  ∀ (n : Byte) (s : State),
    (∀ dst, ∃ t, exec (Row.ldRD8 dst n) s = .next t ∧ encode (Row.ldRD8 dst n) = [0x06 + 8 * regCode dst, n] ∧
      t.reg8 dst = n ∧ KeepsRegs [dst] s t ∧ KeepsFlags s t ∧ KeepsControl s t ∧ KeepsMemory s t ∧ Accesses s t [] ∧
      TotalCycles (Row.ldRD8 dst n) s t 8) ∧
    (∃ t, exec (.ldAtHlD8 n) s = .next t ∧ encode (.ldAtHlD8 n) = [0x36, n] ∧ StoresByte s t s.hl n ∧
      KeepsRegs [] s t ∧ KeepsFlags s t ∧ KeepsControl s t ∧ Accesses s t [.write s.hl n] ∧
      TotalCycles (.ldAtHlD8 n) s t 12)

/-- LD r,(HL) and LD (HL),r: the address is the old HL, also where H or L is the register (R203, R204). -/
def Obligations.LoadThroughHl : Prop :=
  ∀ (r : Reg8) (s : State),
    (∃ t, exec (Row.ldRAtHl r) s = .next t ∧ encode (Row.ldRAtHl r) = [0x46 + 8 * regCode r] ∧
      t.reg8 r = answer s s.hl ∧ KeepsRegs [r] s t ∧ KeepsFlags s t ∧ KeepsControl s t ∧ KeepsMemory s t ∧
      Accesses s t [.read s.hl (answer s s.hl)] ∧ TotalCycles (Row.ldRAtHl r) s t 8) ∧
    (∃ t, exec (Row.ldAtHlR r) s = .next t ∧ encode (Row.ldAtHlR r) = [0x70 + regCode r] ∧
      StoresByte s t s.hl (s.reg8 r) ∧ KeepsRegs [] s t ∧ KeepsFlags s t ∧ KeepsControl s t ∧
      Accesses s t [.write s.hl (s.reg8 r)] ∧ TotalCycles (Row.ldAtHlR r) s t 8)

/-- The loads of A from (BC), (DE), (a16), (a8) and (C): A takes the byte at the address (R206, R207, R210, R217,
R219). -/
def Obligations.LoadAccumulatorFromAddress : Prop :=
  ∀ (nn : Word) (n : Byte) (s : State),
    let loads := fun (i : Instr) (bytes : List Byte) (addr : Word) (cycles : Nat) => ∃ t, exec i s = .next t ∧
      encode i = bytes ∧ t.a = answer s addr ∧ KeepsRegs [.a] s t ∧ KeepsFlags s t ∧ KeepsControl s t ∧
      KeepsMemory s t ∧ Accesses s t [.read addr (answer s addr)] ∧ TotalCycles i s t cycles
    loads .ldAAtBc [0x0A] (BitVec.ofNat 16 (256 * s.b.toNat + s.c.toNat)) 8 ∧
    loads .ldAAtDe [0x1A] (BitVec.ofNat 16 (256 * s.d.toNat + s.e.toNat)) 8 ∧
    loads (.ldAAtA16 nn) (0xFA :: wordBytes nn) nn 16 ∧
    loads (.ldhAAtA8 n) [0xF0, n] (BitVec.ofNat 16 (0xFF00 + n.toNat)) 12 ∧
    loads .ldAAtC [0xF2] (BitVec.ofNat 16 (0xFF00 + s.c.toNat)) 8

/-- The stores of A to (BC), (DE), (a16), (a8) and (C) (R208, R209, R211, R216, R218). -/
def Obligations.StoreAccumulatorToAddress : Prop :=
  ∀ (nn : Word) (n : Byte) (s : State),
    let stores := fun (i : Instr) (bytes : List Byte) (addr : Word) (cycles : Nat) => ∃ t, exec i s = .next t ∧
      encode i = bytes ∧ StoresByte s t addr s.a ∧ KeepsRegs [] s t ∧ KeepsFlags s t ∧ KeepsControl s t ∧
      Accesses s t [.write addr s.a] ∧ TotalCycles i s t cycles
    stores .ldAtBcA [0x02] (BitVec.ofNat 16 (256 * s.b.toNat + s.c.toNat)) 8 ∧
    stores .ldAtDeA [0x12] (BitVec.ofNat 16 (256 * s.d.toNat + s.e.toNat)) 8 ∧
    stores (.ldAtA16A nn) (0xEA :: wordBytes nn) nn 16 ∧
    stores (.ldhAtA8A n) [0xE0, n] (BitVec.ofNat 16 (0xFF00 + n.toNat)) 12 ∧
    stores .ldAtCA [0xE2] (BitVec.ofNat 16 (0xFF00 + s.c.toNat)) 8

/-- LD (HL+),A, LD (HL-),A, LD A,(HL+) and LD A,(HL-): the access at the old HL, then HL plus or minus 1 modulo 2^16
(R212 to R215; the wrap is the spec's decision D4). -/
def Obligations.LoadAndStepHl : Prop :=
  ∀ s : State,
    let stores := fun (i : Instr) (op : Byte) (newHl : Nat) => ∃ t, exec i s = .next t ∧ encode i = [op] ∧
      StoresByte s t s.hl s.a ∧ PairHolds t .hl (BitVec.ofNat 16 newHl) ∧ KeepsRegs [.h, .l] s t ∧ KeepsFlags s t ∧
      KeepsControl s t ∧ Accesses s t [.write s.hl s.a] ∧ TotalCycles i s t 8
    let loads := fun (i : Instr) (op : Byte) (newHl : Nat) => ∃ t, exec i s = .next t ∧ encode i = [op] ∧
      t.a = answer s s.hl ∧ PairHolds t .hl (BitVec.ofNat 16 newHl) ∧ KeepsRegs [.a, .h, .l] s t ∧ KeepsFlags s t ∧
      KeepsControl s t ∧ KeepsMemory s t ∧ Accesses s t [.read s.hl (answer s s.hl)] ∧ TotalCycles i s t 8
    stores .ldAtHlIncA 0x22 (s.hl.toNat + 1) ∧ stores .ldAtHlDecA 0x32 (s.hl.toNat + 65535) ∧
    loads .ldAAtHlInc 0x2A (s.hl.toNat + 1) ∧ loads .ldAAtHlDec 0x3A (s.hl.toNat + 65535)

/-- LD rr,d16 and LD SP,HL (R220, R222). -/
def Obligations.LoadWord : Prop :=
  ∀ s : State,
    (∀ (p : Pair) (nn : Word), ∃ t, exec (Row.ldPairD16 p nn) s = .next t ∧
      encode (Row.ldPairD16 p nn) = (0x01 + 16 * pairCode p) :: wordBytes nn ∧ PairHolds t p nn ∧
      KeepsRegs (pairRegs p) s t ∧ KeepsSpUnless p s t ∧ KeepsFlags s t ∧ t.pc = s.pc ∧ KeepsImeMode s t ∧
      KeepsMemory s t ∧ Accesses s t [] ∧ TotalCycles (Row.ldPairD16 p nn) s t 12) ∧
    (∃ t, exec .ldSpHl s = .next t ∧ encode .ldSpHl = [0xF9] ∧ t.sp.toNat = 256 * s.h.toNat + s.l.toNat ∧
      KeepsRegs [] s t ∧ KeepsFlags s t ∧ t.pc = s.pc ∧ KeepsImeMode s t ∧ KeepsMemory s t ∧ Accesses s t [] ∧
      TotalCycles .ldSpHl s t 8)

/-- LD (a16),SP: the low byte of SP at a16, then the high byte at a16 + 1 modulo 2^16 (R221; the wrap is the spec's
decision D4). -/
def Obligations.StoreStackPointer : Prop :=
  ∀ (nn : Word) (s : State), ∃ t,
    let lo := BitVec.ofNat 8 s.sp.toNat
    let hi := BitVec.ofNat 8 (s.sp.toNat / 256)
    exec (.ldAtA16Sp nn) s = .next t ∧ encode (.ldAtA16Sp nn) = 0x08 :: wordBytes nn ∧ StoresPair s t nn lo hi ∧
    KeepsRegs [] s t ∧ KeepsFlags s t ∧ KeepsControl s t ∧ Accesses s t [.write nn lo, .write (nn + 1) hi] ∧
    TotalCycles (.ldAtA16Sp nn) s t 20

/-! ### The stack (46_stack.md) -/

/-- PUSH: the high byte written at SP - 1, then the low byte at SP - 2, where SP ends; for AF the low byte is F with a
zero low nibble; no flag (R240, R241, R242; the order of the two writes is the spec's decision D18, the wrap D4). -/
def Obligations.PushResult : Prop :=
  ∀ (p : StackPair) (s : State), ∃ t,
    let hi := match p with
      | .bc => s.b
      | .de => s.d
      | .hl => s.h
      | .af => s.a
    let lo := match p with
      | .bc => s.c
      | .de => s.e
      | .hl => s.l
      | .af => s.f &&& 0xF0
    exec (Row.push p) s = .next t ∧ encode (Row.push p) = [0xC5 + 16 * stackPairCode p] ∧ t.sp = s.sp - 2 ∧
    StoresPair s t (s.sp - 2) lo hi ∧ Accesses s t [.write (s.sp - 1) hi, .write (s.sp - 2) lo] ∧
    KeepsRegs [] s t ∧ KeepsFlags s t ∧ t.pc = s.pc ∧ KeepsImeMode s t ∧ TotalCycles (Row.push p) s t 16

/-- POP: the low byte read at SP, then the high byte at SP + 1, and SP plus 2; into AF all four flags come from the low
byte and its low nibble is discarded, else no flag changes (R240, R243, R244; the wrap is the spec's decision D4). -/
def Obligations.PopResult : Prop :=
  ∀ (p : StackPair) (s : State), ∃ t,
    let lo := answer s s.sp
    let hi := secondAnswer s s.sp (s.sp + 1)
    exec (Row.pop p) s = .next t ∧ encode (Row.pop p) = [0xC1 + 16 * stackPairCode p] ∧ t.sp = s.sp + 2 ∧
    (match p with
      | .bc => t.b = hi ∧ t.c = lo ∧ KeepsRegs [.b, .c] s t ∧ KeepsFlags s t
      | .de => t.d = hi ∧ t.e = lo ∧ KeepsRegs [.d, .e] s t ∧ KeepsFlags s t
      | .hl => t.h = hi ∧ t.l = lo ∧ KeepsRegs [.h, .l] s t ∧ KeepsFlags s t
      | .af => t.a = hi ∧ KeepsRegs [.a] s t ∧
          FlagsAre t (lo.getLsbD 7) (lo.getLsbD 6) (lo.getLsbD 5) (lo.getLsbD 4)) ∧
    Accesses s t (wordReads s s.sp) ∧ KeepsMemory s t ∧ t.pc = s.pc ∧ KeepsImeMode s t ∧
    TotalCycles (Row.pop p) s t 12

/-- The round trip: PUSH and then POP of the same pair, on a stack in RAM, gives back the pair, every other register,
F up to its low nibble, and SP (R243: "for all values of BC, the pair is bit-identical after the round trip"). -/
def Obligations.PushThenPopRestores : Prop :=
  ∀ (p : StackPair) (s : State), s.bus.kindAt (s.sp - 1) = .ram → s.bus.kindAt (s.sp - 2) = .ram →
    ∃ t u, exec (Row.push p) s = .next t ∧ exec (Row.pop p) t = .next u ∧
      KeepsRegs [] s u ∧ u.readF = s.readF ∧ KeepsControl s u

/-! ### Control transfer (47_control.md) -/

/-- JP, JP cc and JP HL: PC becomes the target, with one internal cycle but for JP HL, or stays at the fall-through
address when the condition fails; nothing else changes (R250, R252, R253, R254). -/
def Obligations.Jumps : Prop :=
  ∀ (nn : Word) (s : State),
    (∃ t, exec (.jpA16 nn) s = .next t ∧ encode (.jpA16 nn) = 0xC3 :: wordBytes nn ∧
      t = { s with pc := nn, cycleCount := t.cycleCount } ∧ TotalCycles (.jpA16 nn) s t 16) ∧
    (∀ cc, ∃ t, exec (Row.jpCc cc nn) s = .next t ∧ encode (Row.jpCc cc nn) = (0xC2 + 8 * condCode cc) :: wordBytes nn ∧
      (Holds s cc → t = { s with pc := nn, cycleCount := t.cycleCount } ∧ TotalCycles (Row.jpCc cc nn) s t 16) ∧
      (¬ Holds s cc → t = s ∧ TotalCycles (Row.jpCc cc nn) s t 12)) ∧
    (∃ t, exec .jpHl s = .next t ∧ encode .jpHl = [0xE9] ∧ t = { s with pc := t.pc } ∧
      t.pc.toNat = 256 * s.h.toNat + s.l.toNat ∧ TotalCycles .jpHl s t 4)

/-- JR and JR cc: PC, the address after the displacement byte, plus the signed displacement modulo 2^16, or the
fall-through address when the condition fails (R250, R255, R256; the wrap is the spec's decision D4). -/
def Obligations.RelativeJumps : Prop :=
  ∀ (e : Byte) (s : State),
    (∃ t, exec (.jrE8 e) s = .next t ∧ encode (.jrE8 e) = [0x18, e] ∧
      t = { s with pc := t.pc, cycleCount := t.cycleCount } ∧
      (t.pc.toNat : Int) = ((s.pc.toNat : Int) + e.toInt) % 65536 ∧ TotalCycles (.jrE8 e) s t 12) ∧
    (∀ cc, ∃ t, exec (Row.jrCc cc e) s = .next t ∧ encode (Row.jrCc cc e) = [0x20 + 8 * condCode cc, e] ∧
      (Holds s cc → t = { s with pc := t.pc, cycleCount := t.cycleCount } ∧
        (t.pc.toNat : Int) = ((s.pc.toNat : Int) + e.toInt) % 65536 ∧ TotalCycles (Row.jrCc cc e) s t 12) ∧
      (¬ Holds s cc → t = s ∧ TotalCycles (Row.jrCc cc e) s t 8))

/-- CALL, CALL cc and RST: the fall-through address pushed, high byte first, SP minus 2, PC at the target; a call whose
condition fails changes nothing (R240, R257, R258, R263; push order D18, wrap D4). -/
def Obligations.CallsAndRestarts : Prop :=
  ∀ (nn : Word) (s : State),
    let calls := fun (i : Instr) (target : Word) (cycles : Nat) (t : State) =>
      t.pc = target ∧ t.sp = s.sp - 2 ∧
      StoresPair s t (s.sp - 2) (BitVec.ofNat 8 s.pc.toNat) (BitVec.ofNat 8 (s.pc.toNat / 256)) ∧
      Accesses s t [.write (s.sp - 1) (BitVec.ofNat 8 (s.pc.toNat / 256)), .write (s.sp - 2) (BitVec.ofNat 8 s.pc.toNat)] ∧
      KeepsRegs [] s t ∧ KeepsFlags s t ∧ KeepsImeMode s t ∧ TotalCycles i s t cycles
    (∃ t, exec (.callA16 nn) s = .next t ∧ encode (.callA16 nn) = 0xCD :: wordBytes nn ∧ calls (.callA16 nn) nn 24 t) ∧
    (∀ cc, ∃ t, exec (Row.callCc cc nn) s = .next t ∧
      encode (Row.callCc cc nn) = (0xC4 + 8 * condCode cc) :: wordBytes nn ∧
      (Holds s cc → calls (Row.callCc cc nn) nn 24 t) ∧
      (¬ Holds s cc → t = s ∧ TotalCycles (Row.callCc cc nn) s t 12)) ∧
    (∀ row ∈ Row.rst, ∃ t, exec row.1 s = .next t ∧ encode row.1 = [0xC7 + BitVec.ofNat 8 row.2.toNat] ∧
      calls row.1 row.2 16 t) ∧
    Row.rst.map Prod.snd = [0x00, 0x08, 0x10, 0x18, 0x20, 0x28, 0x30, 0x38]

/-- RET, RET cc and RETI: PC popped, low byte first, SP plus 2; RETI also sets ime; a RET whose condition fails makes no
access and is charged its one internal cycle (R240, R259, R260, R262; that RETI sets ime at once is the spec's decision
D11, the wrap D4). -/
def Obligations.Returns : Prop :=
  ∀ s : State,
    let returns := fun (i : Instr) (cycles : Nat) (ime : Bool) (t : State) =>
      t.pc = wordAnswer s s.sp ∧ t.sp = s.sp + 2 ∧ Accesses s t (wordReads s s.sp) ∧ KeepsMemory s t ∧
      KeepsRegs [] s t ∧ KeepsFlags s t ∧ t.ime = ime ∧ t.mode = s.mode ∧ TotalCycles i s t cycles
    (∃ t, exec .ret s = .next t ∧ encode .ret = [0xC9] ∧ returns .ret 16 s.ime t) ∧
    (∃ t, exec .reti s = .next t ∧ encode .reti = [0xD9] ∧ returns .reti 16 true t) ∧
    (∀ cc, ∃ t, exec (Row.retCc cc) s = .next t ∧ encode (Row.retCc cc) = [0xC0 + 8 * condCode cc] ∧
      (Holds s cc → returns (Row.retCc cc) 20 s.ime t) ∧
      (¬ Holds s cc → t = { s with cycleCount := t.cycleCount } ∧ TotalCycles (Row.retCc cc) s t 8))

/-! ### System (48_system.md) -/

/-- NOP changes nothing but what its fetch changed, and DI clears ime at once (R280, R284). -/
def Obligations.NopAndDi : Prop :=
  ∀ s : State,
    (∃ t, exec .nop s = .next t ∧ encode .nop = [0x00] ∧ t = s ∧ TotalCycles .nop s t 4) ∧
    (∃ t, exec .di s = .next t ∧ encode .di = [0xF3] ∧ t = { s with ime := false } ∧ TotalCycles .di s t 4)

/-- EI sets ime at once, with no delay (R285, the spec's decision D10); HALT and STOP enter Halted and Stopped and
change nothing else, STOP ignoring its second byte (R281, R282, the spec's decisions D7, D8 and D9). -/
def Obligations.EiHaltAndStop : Prop :=
  ∀ (x : Byte) (s : State),
    (∃ t, exec .ei s = .next t ∧ encode .ei = [0xFB] ∧ t = { s with ime := true } ∧ TotalCycles .ei s t 4) ∧
    (∃ t, exec .halt s = .next t ∧ encode .halt = [0x76] ∧ t = { s with mode := .halted } ∧ TotalCycles .halt s t 4) ∧
    (∃ t, exec (.stop x) s = .next t ∧ encode (.stop x) = [0x10, x] ∧ t = { s with mode := .stopped } ∧
      TotalCycles (.stop x) s t 8)
end

