-- ==== Sys2Proof/Laws/Bits.lean ====
section
/-! SUPPORT. The halves of a word, and words of two halves (10_state.md R21). -/

namespace Sys2Proof.Machine

theorem toNat_mkWord (hi lo : Byte) : (mkWord hi lo).toNat = 256 * hi.toNat + lo.toNat := by
  have := lo.isLt
  rw [mkWord, BitVec.toNat_append, ← Nat.shiftLeft_add_eq_or_of_lt (by simpa using this), Nat.shiftLeft_eq]
  omega

theorem toNat_hiByte (v : Word) : (hiByte v).toNat = v.toNat / 256 := by
  have := v.isLt
  simp [hiByte, BitVec.extractLsb'_toNat, Nat.shiftRight_eq_div_pow]
  omega

theorem toNat_loByte (v : Word) : (loByte v).toNat = v.toNat % 256 := by
  simp [loByte, BitVec.extractLsb'_toNat]

@[simp] theorem hiByte_mkWord (hi lo : Byte) : hiByte (mkWord hi lo) = hi := by
  apply BitVec.eq_of_toNat_eq
  have := lo.isLt
  rw [toNat_hiByte, toNat_mkWord]
  omega

@[simp] theorem loByte_mkWord (hi lo : Byte) : loByte (mkWord hi lo) = lo := by
  apply BitVec.eq_of_toNat_eq
  have := lo.isLt
  rw [toNat_loByte, toNat_mkWord]
  omega

@[simp] theorem mkWord_hiByte_loByte (v : Word) : mkWord (hiByte v) (loByte v) = v := by
  apply BitVec.eq_of_toNat_eq
  rw [toNat_mkWord, toNat_hiByte, toNat_loByte]
  omega

theorem mkWord_eq_ofNat (hi lo : Byte) : mkWord hi lo = BitVec.ofNat 16 (256 * hi.toNat + lo.toNat) := by
  apply BitVec.eq_of_toNat_eq
  have := (mkWord hi lo).isLt
  rw [toNat_mkWord] at this ⊢
  simp only [BitVec.toNat_ofNat]
  omega

theorem loByte_eq_ofNat (v : Word) : loByte v = BitVec.ofNat 8 v.toNat := by
  apply BitVec.eq_of_toNat_eq
  simp [toNat_loByte]

theorem hiByte_eq_ofNat (v : Word) : hiByte v = BitVec.ofNat 8 (v.toNat / 256) := by
  apply BitVec.eq_of_toNat_eq
  have := v.isLt
  simp [toNat_hiByte]
  omega

end Sys2Proof.Machine
end

