-- ==== Sys2Proof/Laws/State.lean ====
section
/-! SUPPORT. One lemma per field per update of the state, so that no proof unfolds a record update (10_state.md). -/

namespace Sys2Proof.Machine

/-! ### writeF -/

@[simp] theorem State.writeF_a (s : State) (v : Byte) : (s.writeF v).a = s.a := rfl
@[simp] theorem State.writeF_f (s : State) (v : Byte) : (s.writeF v).f = v &&& 0xF0 := rfl
@[simp] theorem State.writeF_b (s : State) (v : Byte) : (s.writeF v).b = s.b := rfl
@[simp] theorem State.writeF_c (s : State) (v : Byte) : (s.writeF v).c = s.c := rfl
@[simp] theorem State.writeF_d (s : State) (v : Byte) : (s.writeF v).d = s.d := rfl
@[simp] theorem State.writeF_e (s : State) (v : Byte) : (s.writeF v).e = s.e := rfl
@[simp] theorem State.writeF_h (s : State) (v : Byte) : (s.writeF v).h = s.h := rfl
@[simp] theorem State.writeF_l (s : State) (v : Byte) : (s.writeF v).l = s.l := rfl
@[simp] theorem State.writeF_sp (s : State) (v : Byte) : (s.writeF v).sp = s.sp := rfl
@[simp] theorem State.writeF_pc (s : State) (v : Byte) : (s.writeF v).pc = s.pc := rfl
@[simp] theorem State.writeF_ime (s : State) (v : Byte) : (s.writeF v).ime = s.ime := rfl
@[simp] theorem State.writeF_mode (s : State) (v : Byte) : (s.writeF v).mode = s.mode := rfl
@[simp] theorem State.writeF_cycleCount (s : State) (v : Byte) : (s.writeF v).cycleCount = s.cycleCount := rfl
@[simp] theorem State.writeF_bus (s : State) (v : Byte) : (s.writeF v).bus = s.bus := rfl
@[simp] theorem State.writeF_reg8 (s : State) (v : Byte) (r : Reg8) :
    (s.writeF v).reg8 r = s.reg8 r := by cases r <;> rfl

/-! ### setSp -/

@[simp] theorem State.setSp_a (s : State) (v : Word) : (s.setSp v).a = s.a := rfl
@[simp] theorem State.setSp_f (s : State) (v : Word) : (s.setSp v).f = s.f := rfl
@[simp] theorem State.setSp_b (s : State) (v : Word) : (s.setSp v).b = s.b := rfl
@[simp] theorem State.setSp_c (s : State) (v : Word) : (s.setSp v).c = s.c := rfl
@[simp] theorem State.setSp_d (s : State) (v : Word) : (s.setSp v).d = s.d := rfl
@[simp] theorem State.setSp_e (s : State) (v : Word) : (s.setSp v).e = s.e := rfl
@[simp] theorem State.setSp_h (s : State) (v : Word) : (s.setSp v).h = s.h := rfl
@[simp] theorem State.setSp_l (s : State) (v : Word) : (s.setSp v).l = s.l := rfl
@[simp] theorem State.setSp_sp (s : State) (v : Word) : (s.setSp v).sp = v := rfl
@[simp] theorem State.setSp_pc (s : State) (v : Word) : (s.setSp v).pc = s.pc := rfl
@[simp] theorem State.setSp_ime (s : State) (v : Word) : (s.setSp v).ime = s.ime := rfl
@[simp] theorem State.setSp_mode (s : State) (v : Word) : (s.setSp v).mode = s.mode := rfl
@[simp] theorem State.setSp_cycleCount (s : State) (v : Word) : (s.setSp v).cycleCount = s.cycleCount := rfl
@[simp] theorem State.setSp_bus (s : State) (v : Word) : (s.setSp v).bus = s.bus := rfl
@[simp] theorem State.setSp_reg8 (s : State) (v : Word) (r : Reg8) :
    (s.setSp v).reg8 r = s.reg8 r := by cases r <;> rfl

/-! ### setPc -/

@[simp] theorem State.setPc_a (s : State) (v : Word) : (s.setPc v).a = s.a := rfl
@[simp] theorem State.setPc_f (s : State) (v : Word) : (s.setPc v).f = s.f := rfl
@[simp] theorem State.setPc_b (s : State) (v : Word) : (s.setPc v).b = s.b := rfl
@[simp] theorem State.setPc_c (s : State) (v : Word) : (s.setPc v).c = s.c := rfl
@[simp] theorem State.setPc_d (s : State) (v : Word) : (s.setPc v).d = s.d := rfl
@[simp] theorem State.setPc_e (s : State) (v : Word) : (s.setPc v).e = s.e := rfl
@[simp] theorem State.setPc_h (s : State) (v : Word) : (s.setPc v).h = s.h := rfl
@[simp] theorem State.setPc_l (s : State) (v : Word) : (s.setPc v).l = s.l := rfl
@[simp] theorem State.setPc_sp (s : State) (v : Word) : (s.setPc v).sp = s.sp := rfl
@[simp] theorem State.setPc_pc (s : State) (v : Word) : (s.setPc v).pc = v := rfl
@[simp] theorem State.setPc_ime (s : State) (v : Word) : (s.setPc v).ime = s.ime := rfl
@[simp] theorem State.setPc_mode (s : State) (v : Word) : (s.setPc v).mode = s.mode := rfl
@[simp] theorem State.setPc_cycleCount (s : State) (v : Word) : (s.setPc v).cycleCount = s.cycleCount := rfl
@[simp] theorem State.setPc_bus (s : State) (v : Word) : (s.setPc v).bus = s.bus := rfl
@[simp] theorem State.setPc_reg8 (s : State) (v : Word) (r : Reg8) :
    (s.setPc v).reg8 r = s.reg8 r := by cases r <;> rfl

/-! ### setIme -/

@[simp] theorem State.setIme_a (s : State) (v : Bool) : (s.setIme v).a = s.a := rfl
@[simp] theorem State.setIme_f (s : State) (v : Bool) : (s.setIme v).f = s.f := rfl
@[simp] theorem State.setIme_b (s : State) (v : Bool) : (s.setIme v).b = s.b := rfl
@[simp] theorem State.setIme_c (s : State) (v : Bool) : (s.setIme v).c = s.c := rfl
@[simp] theorem State.setIme_d (s : State) (v : Bool) : (s.setIme v).d = s.d := rfl
@[simp] theorem State.setIme_e (s : State) (v : Bool) : (s.setIme v).e = s.e := rfl
@[simp] theorem State.setIme_h (s : State) (v : Bool) : (s.setIme v).h = s.h := rfl
@[simp] theorem State.setIme_l (s : State) (v : Bool) : (s.setIme v).l = s.l := rfl
@[simp] theorem State.setIme_sp (s : State) (v : Bool) : (s.setIme v).sp = s.sp := rfl
@[simp] theorem State.setIme_pc (s : State) (v : Bool) : (s.setIme v).pc = s.pc := rfl
@[simp] theorem State.setIme_ime (s : State) (v : Bool) : (s.setIme v).ime = v := rfl
@[simp] theorem State.setIme_mode (s : State) (v : Bool) : (s.setIme v).mode = s.mode := rfl
@[simp] theorem State.setIme_cycleCount (s : State) (v : Bool) : (s.setIme v).cycleCount = s.cycleCount := rfl
@[simp] theorem State.setIme_bus (s : State) (v : Bool) : (s.setIme v).bus = s.bus := rfl
@[simp] theorem State.setIme_reg8 (s : State) (v : Bool) (r : Reg8) :
    (s.setIme v).reg8 r = s.reg8 r := by cases r <;> rfl

/-! ### setMode -/

@[simp] theorem State.setMode_a (s : State) (v : Mode) : (s.setMode v).a = s.a := rfl
@[simp] theorem State.setMode_f (s : State) (v : Mode) : (s.setMode v).f = s.f := rfl
@[simp] theorem State.setMode_b (s : State) (v : Mode) : (s.setMode v).b = s.b := rfl
@[simp] theorem State.setMode_c (s : State) (v : Mode) : (s.setMode v).c = s.c := rfl
@[simp] theorem State.setMode_d (s : State) (v : Mode) : (s.setMode v).d = s.d := rfl
@[simp] theorem State.setMode_e (s : State) (v : Mode) : (s.setMode v).e = s.e := rfl
@[simp] theorem State.setMode_h (s : State) (v : Mode) : (s.setMode v).h = s.h := rfl
@[simp] theorem State.setMode_l (s : State) (v : Mode) : (s.setMode v).l = s.l := rfl
@[simp] theorem State.setMode_sp (s : State) (v : Mode) : (s.setMode v).sp = s.sp := rfl
@[simp] theorem State.setMode_pc (s : State) (v : Mode) : (s.setMode v).pc = s.pc := rfl
@[simp] theorem State.setMode_ime (s : State) (v : Mode) : (s.setMode v).ime = s.ime := rfl
@[simp] theorem State.setMode_mode (s : State) (v : Mode) : (s.setMode v).mode = v := rfl
@[simp] theorem State.setMode_cycleCount (s : State) (v : Mode) : (s.setMode v).cycleCount = s.cycleCount := rfl
@[simp] theorem State.setMode_bus (s : State) (v : Mode) : (s.setMode v).bus = s.bus := rfl
@[simp] theorem State.setMode_reg8 (s : State) (v : Mode) (r : Reg8) :
    (s.setMode v).reg8 r = s.reg8 r := by cases r <;> rfl

/-! ### internal -/

@[simp] theorem State.internal_a (s : State) (n : Nat) : (s.internal n).a = s.a := rfl
@[simp] theorem State.internal_f (s : State) (n : Nat) : (s.internal n).f = s.f := rfl
@[simp] theorem State.internal_b (s : State) (n : Nat) : (s.internal n).b = s.b := rfl
@[simp] theorem State.internal_c (s : State) (n : Nat) : (s.internal n).c = s.c := rfl
@[simp] theorem State.internal_d (s : State) (n : Nat) : (s.internal n).d = s.d := rfl
@[simp] theorem State.internal_e (s : State) (n : Nat) : (s.internal n).e = s.e := rfl
@[simp] theorem State.internal_h (s : State) (n : Nat) : (s.internal n).h = s.h := rfl
@[simp] theorem State.internal_l (s : State) (n : Nat) : (s.internal n).l = s.l := rfl
@[simp] theorem State.internal_sp (s : State) (n : Nat) : (s.internal n).sp = s.sp := rfl
@[simp] theorem State.internal_pc (s : State) (n : Nat) : (s.internal n).pc = s.pc := rfl
@[simp] theorem State.internal_ime (s : State) (n : Nat) : (s.internal n).ime = s.ime := rfl
@[simp] theorem State.internal_mode (s : State) (n : Nat) : (s.internal n).mode = s.mode := rfl
@[simp] theorem State.internal_cycleCount (s : State) (n : Nat) : (s.internal n).cycleCount = s.cycleCount + 4 * n := rfl
@[simp] theorem State.internal_bus (s : State) (n : Nat) : (s.internal n).bus = s.bus := rfl
@[simp] theorem State.internal_reg8 (s : State) (n : Nat) (r : Reg8) :
    (s.internal n).reg8 r = s.reg8 r := by cases r <;> rfl

/-! ### setFlags -/

@[simp] theorem State.setFlags_a (s : State) (z n h c : Bool) : (s.setFlags z n h c).a = s.a := rfl
@[simp] theorem State.setFlags_f (s : State) (z n h c : Bool) : (s.setFlags z n h c).f = packFlags z n h c &&& 0xF0 := rfl
@[simp] theorem State.setFlags_b (s : State) (z n h c : Bool) : (s.setFlags z n h c).b = s.b := rfl
@[simp] theorem State.setFlags_c (s : State) (z n h c : Bool) : (s.setFlags z n h c).c = s.c := rfl
@[simp] theorem State.setFlags_d (s : State) (z n h c : Bool) : (s.setFlags z n h c).d = s.d := rfl
@[simp] theorem State.setFlags_e (s : State) (z n h c : Bool) : (s.setFlags z n h c).e = s.e := rfl
@[simp] theorem State.setFlags_h (s : State) (z n h c : Bool) : (s.setFlags z n h c).h = s.h := rfl
@[simp] theorem State.setFlags_l (s : State) (z n h c : Bool) : (s.setFlags z n h c).l = s.l := rfl
@[simp] theorem State.setFlags_sp (s : State) (z n h c : Bool) : (s.setFlags z n h c).sp = s.sp := rfl
@[simp] theorem State.setFlags_pc (s : State) (z n h c : Bool) : (s.setFlags z n h c).pc = s.pc := rfl
@[simp] theorem State.setFlags_ime (s : State) (z n h c : Bool) : (s.setFlags z n h c).ime = s.ime := rfl
@[simp] theorem State.setFlags_mode (s : State) (z n h c : Bool) : (s.setFlags z n h c).mode = s.mode := rfl
@[simp] theorem State.setFlags_cycleCount (s : State) (z n h c : Bool) : (s.setFlags z n h c).cycleCount = s.cycleCount := rfl
@[simp] theorem State.setFlags_bus (s : State) (z n h c : Bool) : (s.setFlags z n h c).bus = s.bus := rfl
@[simp] theorem State.setFlags_reg8 (s : State) (z n h c : Bool) (r : Reg8) :
    (s.setFlags z n h c).reg8 r = s.reg8 r := by cases r <;> rfl

/-! ### memWrite -/

@[simp] theorem State.memWrite_a (s : State) (addr : Word) (v : Byte) : (s.memWrite addr v).a = s.a := rfl
@[simp] theorem State.memWrite_f (s : State) (addr : Word) (v : Byte) : (s.memWrite addr v).f = s.f := rfl
@[simp] theorem State.memWrite_b (s : State) (addr : Word) (v : Byte) : (s.memWrite addr v).b = s.b := rfl
@[simp] theorem State.memWrite_c (s : State) (addr : Word) (v : Byte) : (s.memWrite addr v).c = s.c := rfl
@[simp] theorem State.memWrite_d (s : State) (addr : Word) (v : Byte) : (s.memWrite addr v).d = s.d := rfl
@[simp] theorem State.memWrite_e (s : State) (addr : Word) (v : Byte) : (s.memWrite addr v).e = s.e := rfl
@[simp] theorem State.memWrite_h (s : State) (addr : Word) (v : Byte) : (s.memWrite addr v).h = s.h := rfl
@[simp] theorem State.memWrite_l (s : State) (addr : Word) (v : Byte) : (s.memWrite addr v).l = s.l := rfl
@[simp] theorem State.memWrite_sp (s : State) (addr : Word) (v : Byte) : (s.memWrite addr v).sp = s.sp := rfl
@[simp] theorem State.memWrite_pc (s : State) (addr : Word) (v : Byte) : (s.memWrite addr v).pc = s.pc := rfl
@[simp] theorem State.memWrite_ime (s : State) (addr : Word) (v : Byte) : (s.memWrite addr v).ime = s.ime := rfl
@[simp] theorem State.memWrite_mode (s : State) (addr : Word) (v : Byte) : (s.memWrite addr v).mode = s.mode := rfl
@[simp] theorem State.memWrite_cycleCount (s : State) (addr : Word) (v : Byte) : (s.memWrite addr v).cycleCount = s.cycleCount + 4 := rfl
@[simp] theorem State.memWrite_bus (s : State) (addr : Word) (v : Byte) : (s.memWrite addr v).bus = s.bus.write addr v := rfl
@[simp] theorem State.memWrite_reg8 (s : State) (addr : Word) (v : Byte) (r : Reg8) :
    (s.memWrite addr v).reg8 r = s.reg8 r := by cases r <;> rfl

/-! ### raise -/

@[simp] theorem State.raise_a (s : State) (err : CoreError) : (s.raise err).a = s.a := rfl
@[simp] theorem State.raise_f (s : State) (err : CoreError) : (s.raise err).f = s.f := rfl
@[simp] theorem State.raise_b (s : State) (err : CoreError) : (s.raise err).b = s.b := rfl
@[simp] theorem State.raise_c (s : State) (err : CoreError) : (s.raise err).c = s.c := rfl
@[simp] theorem State.raise_d (s : State) (err : CoreError) : (s.raise err).d = s.d := rfl
@[simp] theorem State.raise_e (s : State) (err : CoreError) : (s.raise err).e = s.e := rfl
@[simp] theorem State.raise_h (s : State) (err : CoreError) : (s.raise err).h = s.h := rfl
@[simp] theorem State.raise_l (s : State) (err : CoreError) : (s.raise err).l = s.l := rfl
@[simp] theorem State.raise_sp (s : State) (err : CoreError) : (s.raise err).sp = s.sp := rfl
@[simp] theorem State.raise_pc (s : State) (err : CoreError) : (s.raise err).pc = s.pc := rfl
@[simp] theorem State.raise_ime (s : State) (err : CoreError) : (s.raise err).ime = s.ime := rfl
@[simp] theorem State.raise_mode (s : State) (err : CoreError) : (s.raise err).mode = .faulted err := rfl
@[simp] theorem State.raise_cycleCount (s : State) (err : CoreError) : (s.raise err).cycleCount = s.cycleCount := rfl
@[simp] theorem State.raise_bus (s : State) (err : CoreError) : (s.raise err).bus = s.bus := rfl
@[simp] theorem State.raise_reg8 (s : State) (err : CoreError) (r : Reg8) :
    (s.raise err).reg8 r = s.reg8 r := by cases r <;> rfl

/-! ### memRead -/

@[simp] theorem State.memRead_fst (s : State) (addr : Word) : (s.memRead addr).1 = (s.bus.read addr).1 := rfl
@[simp] theorem State.memRead_a (s : State) (addr : Word) : (s.memRead addr).2.a = s.a := rfl
@[simp] theorem State.memRead_f (s : State) (addr : Word) : (s.memRead addr).2.f = s.f := rfl
@[simp] theorem State.memRead_b (s : State) (addr : Word) : (s.memRead addr).2.b = s.b := rfl
@[simp] theorem State.memRead_c (s : State) (addr : Word) : (s.memRead addr).2.c = s.c := rfl
@[simp] theorem State.memRead_d (s : State) (addr : Word) : (s.memRead addr).2.d = s.d := rfl
@[simp] theorem State.memRead_e (s : State) (addr : Word) : (s.memRead addr).2.e = s.e := rfl
@[simp] theorem State.memRead_h (s : State) (addr : Word) : (s.memRead addr).2.h = s.h := rfl
@[simp] theorem State.memRead_l (s : State) (addr : Word) : (s.memRead addr).2.l = s.l := rfl
@[simp] theorem State.memRead_sp (s : State) (addr : Word) : (s.memRead addr).2.sp = s.sp := rfl
@[simp] theorem State.memRead_pc (s : State) (addr : Word) : (s.memRead addr).2.pc = s.pc := rfl
@[simp] theorem State.memRead_ime (s : State) (addr : Word) : (s.memRead addr).2.ime = s.ime := rfl
@[simp] theorem State.memRead_mode (s : State) (addr : Word) : (s.memRead addr).2.mode = s.mode := rfl
@[simp] theorem State.memRead_cycleCount (s : State) (addr : Word) : (s.memRead addr).2.cycleCount = s.cycleCount + 4 := rfl
@[simp] theorem State.memRead_bus (s : State) (addr : Word) : (s.memRead addr).2.bus = (s.bus.read addr).2 := rfl
@[simp] theorem State.memRead_reg8 (s : State) (addr : Word) (r : Reg8) : (s.memRead addr).2.reg8 r = s.reg8 r := by cases r <;> rfl

/-! ### setReg8 -/

@[simp] theorem State.setReg8_a (s : State) (r : Reg8) (v : Byte) :
    (s.setReg8 r v).a = if r = .a then v else s.a := by cases r <;> rfl
@[simp] theorem State.setReg8_f (s : State) (r : Reg8) (v : Byte) : (s.setReg8 r v).f = s.f := by cases r <;> rfl
@[simp] theorem State.setReg8_b (s : State) (r : Reg8) (v : Byte) :
    (s.setReg8 r v).b = if r = .b then v else s.b := by cases r <;> rfl
@[simp] theorem State.setReg8_c (s : State) (r : Reg8) (v : Byte) :
    (s.setReg8 r v).c = if r = .c then v else s.c := by cases r <;> rfl
@[simp] theorem State.setReg8_d (s : State) (r : Reg8) (v : Byte) :
    (s.setReg8 r v).d = if r = .d then v else s.d := by cases r <;> rfl
@[simp] theorem State.setReg8_e (s : State) (r : Reg8) (v : Byte) :
    (s.setReg8 r v).e = if r = .e then v else s.e := by cases r <;> rfl
@[simp] theorem State.setReg8_h (s : State) (r : Reg8) (v : Byte) :
    (s.setReg8 r v).h = if r = .h then v else s.h := by cases r <;> rfl
@[simp] theorem State.setReg8_l (s : State) (r : Reg8) (v : Byte) :
    (s.setReg8 r v).l = if r = .l then v else s.l := by cases r <;> rfl
@[simp] theorem State.setReg8_sp (s : State) (r : Reg8) (v : Byte) : (s.setReg8 r v).sp = s.sp := by cases r <;> rfl
@[simp] theorem State.setReg8_pc (s : State) (r : Reg8) (v : Byte) : (s.setReg8 r v).pc = s.pc := by cases r <;> rfl
@[simp] theorem State.setReg8_ime (s : State) (r : Reg8) (v : Byte) : (s.setReg8 r v).ime = s.ime := by cases r <;> rfl
@[simp] theorem State.setReg8_mode (s : State) (r : Reg8) (v : Byte) : (s.setReg8 r v).mode = s.mode := by cases r <;> rfl
@[simp] theorem State.setReg8_cycleCount (s : State) (r : Reg8) (v : Byte) : (s.setReg8 r v).cycleCount = s.cycleCount := by cases r <;> rfl
@[simp] theorem State.setReg8_bus (s : State) (r : Reg8) (v : Byte) : (s.setReg8 r v).bus = s.bus := by cases r <;> rfl
@[simp] theorem State.reg8_setReg8 (s : State) (r r' : Reg8) (v : Byte) :
    (s.setReg8 r v).reg8 r' = if r = r' then v else s.reg8 r' := by cases r <;> cases r' <;> rfl
@[simp] theorem State.setReg8_reg8 (s : State) (r : Reg8) : s.setReg8 r (s.reg8 r) = s := by cases r <;> rfl

/-! ### setPair -/

@[simp] theorem State.setPair_a (s : State) (p : Pair) (v : Word) : (s.setPair p v).a = s.a := by cases p <;> rfl
@[simp] theorem State.setPair_f (s : State) (p : Pair) (v : Word) : (s.setPair p v).f = s.f := by cases p <;> rfl
@[simp] theorem State.setPair_b (s : State) (p : Pair) (v : Word) :
    (s.setPair p v).b = if p = .bc then hiByte v else s.b := by cases p <;> rfl
@[simp] theorem State.setPair_c (s : State) (p : Pair) (v : Word) :
    (s.setPair p v).c = if p = .bc then loByte v else s.c := by cases p <;> rfl
@[simp] theorem State.setPair_d (s : State) (p : Pair) (v : Word) :
    (s.setPair p v).d = if p = .de then hiByte v else s.d := by cases p <;> rfl
@[simp] theorem State.setPair_e (s : State) (p : Pair) (v : Word) :
    (s.setPair p v).e = if p = .de then loByte v else s.e := by cases p <;> rfl
@[simp] theorem State.setPair_h (s : State) (p : Pair) (v : Word) :
    (s.setPair p v).h = if p = .hl then hiByte v else s.h := by cases p <;> rfl
@[simp] theorem State.setPair_l (s : State) (p : Pair) (v : Word) :
    (s.setPair p v).l = if p = .hl then loByte v else s.l := by cases p <;> rfl
@[simp] theorem State.setPair_sp (s : State) (p : Pair) (v : Word) : (s.setPair p v).sp = if p = .sp then v else s.sp := by cases p <;> rfl
@[simp] theorem State.setPair_pc (s : State) (p : Pair) (v : Word) : (s.setPair p v).pc = s.pc := by cases p <;> rfl
@[simp] theorem State.setPair_ime (s : State) (p : Pair) (v : Word) : (s.setPair p v).ime = s.ime := by cases p <;> rfl
@[simp] theorem State.setPair_mode (s : State) (p : Pair) (v : Word) : (s.setPair p v).mode = s.mode := by cases p <;> rfl
@[simp] theorem State.setPair_cycleCount (s : State) (p : Pair) (v : Word) : (s.setPair p v).cycleCount = s.cycleCount := by cases p <;> rfl
@[simp] theorem State.setPair_bus (s : State) (p : Pair) (v : Word) : (s.setPair p v).bus = s.bus := by cases p <;> rfl
@[simp] theorem State.pair_setPair (s : State) (p : Pair) (v : Word) : (s.setPair p v).pair p = v := by
  cases p <;> simp [State.setPair, State.pair, State.bc, State.de, State.hl, State.setReg8]

/-! ### The views read what the fields hold -/

@[simp] theorem State.reg8_b (s : State) : s.reg8 .b = s.b := rfl
@[simp] theorem State.reg8_c (s : State) : s.reg8 .c = s.c := rfl
@[simp] theorem State.reg8_d (s : State) : s.reg8 .d = s.d := rfl
@[simp] theorem State.reg8_e (s : State) : s.reg8 .e = s.e := rfl
@[simp] theorem State.reg8_h (s : State) : s.reg8 .h = s.h := rfl
@[simp] theorem State.reg8_l (s : State) : s.reg8 .l = s.l := rfl
@[simp] theorem State.reg8_a (s : State) : s.reg8 .a = s.a := rfl
@[simp] theorem State.pair_bc (s : State) : s.pair .bc = s.bc := rfl
@[simp] theorem State.pair_de (s : State) : s.pair .de = s.de := rfl
@[simp] theorem State.pair_hl (s : State) : s.pair .hl = s.hl := rfl
@[simp] theorem State.pair_sp (s : State) : s.pair .sp = s.sp := rfl
@[simp] theorem State.stackPair_bc (s : State) : s.stackPair .bc = s.bc := rfl
@[simp] theorem State.stackPair_de (s : State) : s.stackPair .de = s.de := rfl
@[simp] theorem State.stackPair_hl (s : State) : s.stackPair .hl = s.hl := rfl
@[simp] theorem State.stackPair_af (s : State) : s.stackPair .af = s.af := rfl

end Sys2Proof.Machine
end

