-- ==== Sys2Proof/Laws/Flags.lean ====
section
/-! SUPPORT. What a flag reads after the flags are written, and the flag computations in natural and integer arithmetic
(10_state.md R23 to R25; 41_alu8.md R111, R140; 42_alu16.md R153, R154). -/

namespace Sys2Proof.Machine

/-! ### The byte F -/

@[simp] theorem packFlags_bit_7 (z n h c : Bool) : (packFlags z n h c)[7] = z := by
  cases z <;> cases n <;> cases h <;> cases c <;> rfl

@[simp] theorem packFlags_bit_6 (z n h c : Bool) : (packFlags z n h c)[6] = n := by
  cases z <;> cases n <;> cases h <;> cases c <;> rfl

@[simp] theorem packFlags_bit_5 (z n h c : Bool) : (packFlags z n h c)[5] = h := by
  cases z <;> cases n <;> cases h <;> cases c <;> rfl

@[simp] theorem packFlags_bit_4 (z n h c : Bool) : (packFlags z n h c)[4] = c := by
  cases z <;> cases n <;> cases h <;> cases c <;> rfl

@[simp] theorem packFlags_lowNibble (z n h c : Bool) : packFlags z n h c &&& 15#8 = 0#8 := by
  cases z <;> cases n <;> cases h <;> cases c <;> rfl

/-- Four flags fill exactly the four bits that a write of F stores. -/
@[simp] theorem packFlags_masked (z n h c : Bool) : packFlags z n h c &&& 240#8 = packFlags z n h c := by
  cases z <;> cases n <;> cases h <;> cases c <;> rfl

/-- What a write of F stores has a zero low nibble (10_state.md R23). -/
@[simp] theorem masked_lowNibble (v : Byte) : v &&& 240#8 &&& 15#8 = 0#8 := by
  rw [BitVec.and_assoc]; exact BitVec.and_zero

/-- A byte with a zero low nibble is what its write stores. -/
theorem masked_of_lowNibble {v : Byte} (hv : v &&& 0x0F = 0) : v &&& 0xF0 = v := by
  revert v; decide

/-- F is its four flags where its low nibble is zero. -/
theorem packFlags_of_lowNibble {s : State} (hs : s.f &&& 0x0F = 0) : packFlags s.zf s.nf s.hf s.cf = s.f := by
  have key : ∀ v : Byte, v &&& 0x0F = 0 →
      packFlags (v.getLsbD 7) (v.getLsbD 6) (v.getLsbD 5) (v.getLsbD 4) = v := by decide
  exact key s.f hs

@[simp] theorem State.setFlags_zf (s : State) (z n h c : Bool) : (s.setFlags z n h c).zf = z := by
  simp [State.zf]

@[simp] theorem State.setFlags_nf (s : State) (z n h c : Bool) : (s.setFlags z n h c).nf = n := by
  simp [State.nf]

@[simp] theorem State.setFlags_hf (s : State) (z n h c : Bool) : (s.setFlags z n h c).hf = h := by
  simp [State.hf]

@[simp] theorem State.setFlags_cf (s : State) (z n h c : Bool) : (s.setFlags z n h c).cf = c := by
  simp [State.cf]

/-! ### The computations -/

theorem toNat_add8 (a b : Byte) (cin : Bool) :
    (add8 a b cin).result.toNat = (a.toNat + b.toNat + bitNat cin) % 256 := by
  simp [add8]

theorem toNat_sub8 (a b : Byte) (cin : Bool) :
    (sub8 a b cin).result.toNat = (a.toNat + 512 - b.toNat - bitNat cin) % 256 := by
  have ha := a.isLt
  have hb := b.isLt
  have hc : bitNat cin ≤ 1 := by cases cin <;> decide
  simp only [sub8, BitVec.toNat_ofInt]
  omega

theorem half_sub8 (a b : Byte) (cin : Bool) :
    (sub8 a b cin).half = decide (a.toNat % 16 < b.toNat % 16 + bitNat cin) := by
  have key : ∀ x y z : Nat, ((x : Int) - y - z < 0) ↔ x < y + z := by omega
  simp only [sub8, lowNibble, key]

theorem carry_sub8 (a b : Byte) (cin : Bool) :
    (sub8 a b cin).carry = decide (a.toNat < b.toNat + bitNat cin) := by
  have key : ∀ x y z : Nat, ((x : Int) - y - z < 0) ↔ x < y + z := by omega
  simp only [sub8, key]

theorem toNat_add16 (x y : Word) : (add16 x y).result.toNat = (x.toNat + y.toNat) % 65536 := by
  simp [add16]

/-- The signed displacement of JR, ADD SP and LD HL,SP+e8 (30_encoding.md R90). -/
theorem toNat_add_sext16 (v : Word) (e : Byte) :
    ((v + sext16 e).toNat : Int) = ((v.toNat : Int) + e.toInt) % 65536 := by
  have hv := v.isLt
  have he := e.isLt
  rw [BitVec.toNat_add, sext16, BitVec.toNat_signExtend, BitVec.toInt_eq_msb_cond, BitVec.toNat_setWidth]
  cases e.msb
  · simp only [Bool.false_eq_true, if_false]; omega
  · simp only [if_true]; omega

/-- DAA in natural arithmetic: the two corrections, and which way they are applied (41_alu8.md R140). -/
theorem toNat_daaAdjust (a : Byte) (n h c : Bool) :
    (daaAdjust a n h c).1.toNat =
      (if n then a.toNat + 256 - ((if h then 0x06 else 0) + (if c then 0x60 else 0))
        else a.toNat + ((if h ∨ 9 < a.toNat % 16 then 0x06 else 0) + (if c ∨ 0x99 < a.toNat then 0x60 else 0))) % 256 := by
  revert a
  cases n <;> cases h <;> cases c <;> decide

theorem carry_daaAdjust (a : Byte) (n h c : Bool) :
    (daaAdjust a n h c).2 = (c || (!n && decide (0x99 < a.toNat))) := rfl

end Sys2Proof.Machine
end

