-- ==== Sys2Proof/Laws/Memory.lean ====
section
/-! SUPPORT. The laws of memory: read after write, and that every operation keeps the canonical form, in which equal
memories are equal data. -/

namespace Sys2Proof.Machine

theorem Memory.read_without_same (m : Memory) (a : Nat) : (m.without a).read a = unlistedByte := by
  induction m with
  | nil => rfl
  | cons cell rest ih =>
    obtain ⟨k, w⟩ := cell
    by_cases h : k = a <;> simp [Memory.without, Memory.read, h, ih]

theorem Memory.read_without_other (m : Memory) {a b : Nat} (h : b ≠ a) : (m.without a).read b = m.read b := by
  induction m with
  | nil => rfl
  | cons cell rest ih =>
    obtain ⟨k, w⟩ := cell
    by_cases hk : k = a
    · have hkb : k ≠ b := by omega
      simp [Memory.without, Memory.read, hk, ih, hk ▸ hkb]
    · simp [Memory.without, Memory.read, hk, ih]

theorem Memory.mem_without {m : Memory} {a : Nat} {cell : Host.Cell} (h : cell ∈ m.without a) : cell.1 ≠ a := by
  induction m with
  | nil => cases h
  | cons first rest ih =>
    obtain ⟨k, w⟩ := first
    by_cases hk : k = a
    · exact ih (by simpa [Memory.without, hk] using h)
    · rcases (by simpa [Memory.without, hk] using h : cell = (k, w) ∨ cell ∈ Memory.without rest a) with rfl | h
      · exact hk
      · exact ih h

theorem Memory.read_putCell_other (m : Memory) {a b : Nat} (v : Byte) (h : b ≠ a) :
    (m.putCell a v).read b = m.read b := by
  induction m with
  | nil => simp [Memory.putCell, Memory.read, Ne.symm h]
  | cons cell rest ih =>
    obtain ⟨k, w⟩ := cell
    by_cases hk : a < k
    · simp [Memory.putCell, Memory.read, hk, Ne.symm h]
    · simp [Memory.putCell, Memory.read, hk, ih]

theorem Memory.read_putCell_same (m : Memory) (a : Nat) (v : Byte) :
    ((m.without a).putCell a v).read a = v := by
  induction m with
  | nil => simp [Memory.without, Memory.putCell, Memory.read]
  | cons cell rest ih =>
    obtain ⟨k, w⟩ := cell
    by_cases hk : k = a
    · simpa [Memory.without, hk] using ih
    · by_cases hlt : a < k <;> simp [Memory.without, hk, hlt, Memory.putCell, Memory.read, ih]

/-- A read after a write to the same address gives the byte written. -/
@[simp] theorem Memory.read_write_same (m : Memory) (a : Nat) (v : Byte) : (m.write a v).read a = v := by
  unfold Memory.write
  split
  · next h => rw [Memory.read_without_same, h]
  · exact Memory.read_putCell_same m a v

/-- A write leaves every other address alone. -/
theorem Memory.read_write_other (m : Memory) {a b : Nat} (v : Byte) (h : b ≠ a) :
    (m.write a v).read b = m.read b := by
  unfold Memory.write
  split
  · exact Memory.read_without_other m h
  · rw [Memory.read_putCell_other _ _ h, Memory.read_without_other m h]

/-- What a read gives after a write, in one equation. -/
theorem Memory.read_write (m : Memory) (a b : Nat) (v : Byte) :
    (m.write a v).read b = if b = a then v else m.read b := by
  split
  · next h => rw [h, Memory.read_write_same]
  · next h => exact Memory.read_write_other m v h

/-! ### The canonical form -/

theorem Memory.wfFrom_cons {lo k : Nat} {w : Byte} {rest : Memory} :
    Memory.wfFrom lo ((k, w) :: rest) = true ↔
      lo ≤ k ∧ k < 0x10000 ∧ w ≠ unlistedByte ∧ Memory.wfFrom (k + 1) rest = true := by
  simp [Memory.wfFrom, and_assoc]

theorem Memory.wfFrom_mono {lo lo' : Nat} {m : Memory} (h : lo' ≤ lo) (hm : Memory.wfFrom lo m = true) :
    Memory.wfFrom lo' m = true := by
  cases m with
  | nil => rfl
  | cons cell rest =>
    obtain ⟨k, w⟩ := cell
    rw [Memory.wfFrom_cons] at hm ⊢
    exact ⟨by omega, hm.2⟩

theorem Memory.wfFrom_without {lo : Nat} {m : Memory} (a : Nat) (hm : Memory.wfFrom lo m = true) :
    Memory.wfFrom lo (m.without a) = true := by
  induction m generalizing lo with
  | nil => rfl
  | cons cell rest ih =>
    obtain ⟨k, w⟩ := cell
    rw [Memory.wfFrom_cons] at hm
    have hrest := ih hm.2.2.2
    by_cases hk : k = a
    · simpa [Memory.without, hk] using Memory.wfFrom_mono (lo := k + 1) (by omega) hrest
    · simp only [Memory.without, hk, if_false]
      exact Memory.wfFrom_cons.2 ⟨hm.1, hm.2.1, hm.2.2.1, hrest⟩

theorem Memory.wfFrom_putCell {lo a : Nat} {m : Memory} {v : Byte} (ha : lo ≤ a) (hb : a < 0x10000)
    (hv : v ≠ unlistedByte) (hne : ∀ cell ∈ m, cell.1 ≠ a) (hm : Memory.wfFrom lo m = true) :
    Memory.wfFrom lo (m.putCell a v) = true := by
  induction m generalizing lo with
  | nil => exact Memory.wfFrom_cons.2 ⟨ha, hb, hv, rfl⟩
  | cons cell rest ih =>
    obtain ⟨k, w⟩ := cell
    rw [Memory.wfFrom_cons] at hm
    have hka : k ≠ a := hne (k, w) (by simp)
    by_cases hlt : a < k
    · simp only [Memory.putCell, hlt, if_true]
      exact Memory.wfFrom_cons.2 ⟨ha, hb, hv, Memory.wfFrom_cons.2 ⟨by omega, hm.2⟩⟩
    · simp only [Memory.putCell, hlt, if_false]
      exact Memory.wfFrom_cons.2 ⟨hm.1, hm.2.1, hm.2.2.1,
        ih (by omega) (fun c hc => hne c (List.mem_cons_of_mem _ hc)) hm.2.2.2⟩

/-- Every write inside the address space keeps the canonical form. -/
theorem Memory.wf_write {m : Memory} {a : Nat} (v : Byte) (ha : a < 0x10000) (hm : m.wf = true) :
    (m.write a v).wf = true := by
  unfold Memory.wf Memory.write at *
  split
  · exact Memory.wfFrom_without a hm
  · next hv =>
    exact Memory.wfFrom_putCell (Nat.zero_le _) ha hv (fun _ => Memory.mem_without) (Memory.wfFrom_without a hm)

theorem Memory.read_below {lo : Nat} {m : Memory} (hm : Memory.wfFrom lo m = true) {a : Nat} (ha : a < lo) :
    m.read a = unlistedByte := by
  induction m generalizing lo with
  | nil => rfl
  | cons cell rest ih =>
    obtain ⟨k, w⟩ := cell
    rw [Memory.wfFrom_cons] at hm
    have hka : k ≠ a := by omega
    simpa [Memory.read, hka] using ih hm.2.2.2 (by omega)

theorem Memory.ext_from {lo lo' : Nat} {m m' : Memory} (hm : Memory.wfFrom lo m = true)
    (hm' : Memory.wfFrom lo' m' = true) (h : ∀ a, m.read a = m'.read a) : m = m' := by
  induction m generalizing lo lo' m' with
  | nil =>
    cases m' with
    | nil => rfl
    | cons cell rest =>
      obtain ⟨k, w⟩ := cell
      rw [Memory.wfFrom_cons] at hm'
      exact absurd (h k).symm (by simpa [Memory.read] using hm'.2.2.1)
  | cons cell rest ih =>
    obtain ⟨k, w⟩ := cell
    cases m' with
    | nil =>
      rw [Memory.wfFrom_cons] at hm
      exact absurd (h k) (by simpa [Memory.read] using hm.2.2.1)
    | cons cell' rest' =>
      obtain ⟨k', w'⟩ := cell'
      rw [Memory.wfFrom_cons] at hm hm'
      have hk : k = k' := by
        rcases lt_trichotomy k k' with hlt | heq | hgt
        · have h1 := h k
          rw [Memory.read_below (lo := k') (m := (k', w') :: rest')
            (Memory.wfFrom_cons.2 ⟨le_refl _, hm'.2⟩) hlt] at h1
          exact absurd h1 (by simpa [Memory.read] using hm.2.2.1)
        · exact heq
        · have h1 := h k'
          rw [Memory.read_below (lo := k) (m := (k, w) :: rest)
            (Memory.wfFrom_cons.2 ⟨le_refl _, hm.2⟩) hgt] at h1
          exact absurd h1.symm (by simpa [Memory.read] using hm'.2.2.1)
      subst hk
      have hw : w = w' := by simpa [Memory.read] using h k
      subst hw
      rw [ih hm.2.2.2 hm'.2.2.2 (m' := rest') fun a => ?_]
      by_cases hak : k = a
      · rw [Memory.read_below hm.2.2.2 (by omega), Memory.read_below hm'.2.2.2 (by omega)]
      · simpa [Memory.read, hak] using h a

/-- Two memories in canonical form that read alike are equal. -/
theorem Memory.ext_of_wf {m m' : Memory} (hm : m.wf = true) (hm' : m'.wf = true) (h : ∀ a, m.read a = m'.read a) :
    m = m' := Memory.ext_from hm hm' h

end Sys2Proof.Machine
end

