-- ==== Sys2Proof/Laws/Ops.lean ====
section
/-! SUPPORT. For each shared operation one lemma that says everything it does: the bus port (20_memory.md R50 to R66),
the fetch (00_scope.md R14), the stack (46_stack.md R240), calls and returns (47_control.md R257 to R263) and the operand
forms (43_rotate_shift.md R170). -/

namespace Sys2Proof.Machine

/-! ### The bus -/

@[simp] theorem Bus.read_mem (b : Bus) (addr : Word) : (b.read addr).2.mem = b.mem := rfl

@[simp] theorem Bus.read_regions (b : Bus) (addr : Word) : (b.read addr).2.regions = b.regions := rfl

@[simp] theorem Bus.read_trace (b : Bus) (addr : Word) :
    (b.read addr).2.trace = .read addr (b.read addr).1 :: b.trace := rfl

/-- Everything a read does to the bus: it is recorded. -/
theorem Bus.read_snd (b : Bus) (addr : Word) :
    (b.read addr).2 = { b with trace := .read addr (b.read addr).1 :: b.trace } := rfl

@[simp] theorem Bus.write_regions (b : Bus) (addr : Word) (v : Byte) : (b.write addr v).regions = b.regions := rfl

@[simp] theorem Bus.write_trace (b : Bus) (addr : Word) (v : Byte) :
    (b.write addr v).trace = .write addr v :: b.trace := rfl

/-- Everything a write does to memory: it stores where the bus treats the address as RAM, and nothing elsewhere. -/
theorem Bus.write_mem (b : Bus) (addr : Word) (v : Byte) :
    (b.write addr v).mem = if b.kindAt addr = .ram then b.mem.write addr.toNat v else b.mem := by
  unfold Bus.write
  cases b.kindAt addr <;> rfl

/-- The windows alone decide an address's kind. -/
theorem Bus.kindAt_congr {b b' : Bus} (hb : b.regions = b'.regions) (addr : Word) : b.kindAt addr = b'.kindAt addr := by
  unfold Bus.kindAt; rw [hb]

@[simp] theorem Bus.read_kindAt (b : Bus) (addr other : Word) : (b.read addr).2.kindAt other = b.kindAt other := rfl

@[simp] theorem Bus.write_kindAt (b : Bus) (addr other : Word) (v : Byte) :
    (b.write addr v).kindAt other = b.kindAt other := rfl

/-- Every address that is not external answers the byte of memory (20_memory.md R66). -/
theorem Bus.read_fst (b : Bus) (addr : Word) (hk : b.kindAt addr ≠ .external) :
    (b.read addr).1 = b.mem.read addr.toNat := by
  unfold Bus.read
  cases hc : b.kindAt addr
  · rfl
  · rfl
  · exact absurd hc hk

/-- Every operation of the bus keeps memory in its canonical form. -/
theorem Bus.wf_write {b : Bus} (addr : Word) (v : Byte) (hb : b.mem.wf = true) : (b.write addr v).mem.wf = true := by
  rw [Bus.write_mem]
  split
  · exact Memory.wf_write v addr.isLt hb
  · exact hb

/-! ### One byte of memory -/

theorem State.byteAt_congr {s s' : State} (hb : s.bus.mem = s'.bus.mem) (addr : Word) : s.byteAt addr = s'.byteAt addr := by
  unfold State.byteAt; rw [hb]

@[simp] theorem State.memRead_byteAt (s : State) (addr other : Word) : (s.memRead addr).2.byteAt other = s.byteAt other :=
  rfl

/-- A byte read after one byte is written: it is the byte written exactly at that address, in RAM. -/
theorem State.memWrite_byteAt (s : State) (addr other : Word) (v : Byte) :
    (s.memWrite addr v).byteAt other =
      if other = addr ∧ s.bus.kindAt addr = .ram then v else s.byteAt other := by
  unfold State.byteAt
  rw [State.memWrite_bus, Bus.write_mem]
  by_cases hk : s.bus.kindAt addr = .ram
  · simp only [hk, if_true, and_true, Memory.read_write]
    by_cases ho : other = addr
    · simp [ho]
    · simp [ho, BitVec.toNat_inj]
  · simp [hk]

/-! ### Fetching -/

/-- Everything a fetch of one byte does. -/
theorem State.fetch8_eq (s : State) :
    s.fetch8 = ((s.bus.read s.pc).1,
      { s with pc := s.pc + 1, cycleCount := s.cycleCount + 4, bus := (s.bus.read s.pc).2 }) := rfl

@[simp] theorem State.fetchBytes_length (n : Nat) (s : State) : (s.fetchBytes n).1.length = n := by
  induction n generalizing s with
  | zero => rfl
  | succ n ih => simp [State.fetchBytes, ih]

/-- Everything a fetch of `n` bytes does to the state: PC moves on by `n`, 4 cycles for each, and the bus records the
reads; memory and the windows stay. -/
theorem State.fetchBytes_snd (n : Nat) (s : State) : ∃ accesses,
    (s.fetchBytes n).2 = { s with pc := s.pc + BitVec.ofNat 16 n, cycleCount := s.cycleCount + 4 * n,
                                  bus := { s.bus with trace := accesses ++ s.bus.trace } } ∧ accesses.length = n := by
  induction n generalizing s with
  | zero => exact ⟨[], by simp [State.fetchBytes]⟩
  | succ n ih =>
    obtain ⟨accesses, heq, hlen⟩ := ih s.fetch8.2
    refine ⟨accesses ++ [.read s.pc (s.bus.read s.pc).1], ?_, by simp [hlen]⟩
    have hpc : s.pc + 1 + BitVec.ofNat 16 n = s.pc + BitVec.ofNat 16 (n + 1) := by
      rw [BitVec.add_assoc, ← BitVec.ofNat_add_ofNat, BitVec.add_comm (BitVec.ofNat 16 n)]
      rfl
    have hcy : s.cycleCount + 4 + 4 * n = s.cycleCount + 4 * (n + 1) := by omega
    simp only [State.fetchBytes]
    rw [heq, State.fetch8_eq]
    simpa [hcy] using hpc

/-! ### The stack -/

/-- Everything a push does (46_stack.md R240). -/
theorem State.push16_eq (s : State) (v : Word) :
    s.push16 v = { s with sp := s.sp - 2, cycleCount := s.cycleCount + 8,
                          bus := (s.bus.write (s.sp - 1) (hiByte v)).write (s.sp - 2) (loByte v) } := by
  simp only [State.push16, State.memWrite, State.setSp, Nat.add_assoc]

/-- Everything a pop does (46_stack.md R240). -/
theorem State.pop16_eq (s : State) :
    s.pop16 = (mkWord ((s.bus.read s.sp).2.read (s.sp + 1)).1 (s.bus.read s.sp).1,
      { s with sp := s.sp + 2, cycleCount := s.cycleCount + 8,
               bus := ((s.bus.read s.sp).2.read (s.sp + 1)).2 }) := by
  simp only [State.pop16, State.memRead, State.setSp, Nat.add_assoc]

/-! ### Calls, returns, jumps, errors -/

/-- Everything CALL and RST do (47_control.md R257, R263). -/
theorem State.callTo_eq (s : State) (addr : Word) :
    s.callTo addr = { s with sp := s.sp - 2, pc := addr, cycleCount := s.cycleCount + 12,
                             bus := (s.bus.write (s.sp - 1) (hiByte s.pc)).write (s.sp - 2) (loByte s.pc) } := by
  simp only [State.callTo, State.push16_eq, State.internal, State.setPc, Nat.add_assoc]

/-- Everything RET does (47_control.md R259). -/
theorem State.returnToStack_eq (s : State) :
    s.returnToStack = { s with sp := s.sp + 2, cycleCount := s.cycleCount + 12,
                               pc := mkWord ((s.bus.read s.sp).2.read (s.sp + 1)).1 (s.bus.read s.sp).1,
                               bus := ((s.bus.read s.sp).2.read (s.sp + 1)).2 } := by
  simp only [State.returnToStack, State.pop16_eq, State.internal, State.setPc, Nat.add_assoc]

/-- Everything a taken jump does (47_control.md R252). -/
theorem State.jumpTo_eq (s : State) (addr : Word) :
    s.jumpTo addr = { s with pc := addr, cycleCount := s.cycleCount + 4 } := rfl

/-- Everything raising an error does (60_exceptions.md R305). -/
theorem State.raise_eq (s : State) (err : CoreError) : s.raise err = { s with mode := .faulted err } := rfl

/-- Everything an idle step does (60_exceptions.md R311). -/
theorem State.idle_eq (s : State) :
    s.idle = { s with cycleCount := s.cycleCount + 4,
                      mode := if Config.wake { s with cycleCount := s.cycleCount + 4 } then .running else s.mode } := by
  unfold State.idle
  by_cases hw : Config.wake (s.internal 1) = true
  · have hw' : Config.wake { s with cycleCount := s.cycleCount + 4 } = true := hw
    simp only [hw, hw', if_true]
    rfl
  · have hw' : ¬ Config.wake { s with cycleCount := s.cycleCount + 4 } = true := hw
    simp only [hw, hw']
    rfl

/-! ### Operand forms -/

theorem State.readSrc_reg (s : State) (r : Reg8) : s.readSrc (.reg r) = (s.reg8 r, s) := rfl

theorem State.readSrc_atHl (s : State) : s.readSrc .atHl = s.memRead s.hl := rfl

theorem State.readSrc_imm (s : State) (n : Byte) : s.readSrc (.imm n) = (n, s) := rfl

theorem State.getLoc_reg (s : State) (r : Reg8) : s.getLoc (.reg r) = (s.reg8 r, s) := rfl

theorem State.getLoc_atHl (s : State) : s.getLoc .atHl = s.memRead s.hl := rfl

theorem State.putLoc_reg (s : State) (r : Reg8) (v : Byte) : s.putLoc (.reg r) v = s.setReg8 r v := rfl

theorem State.putLoc_atHl (s : State) (v : Byte) : s.putLoc .atHl v = s.memWrite s.hl v := rfl

theorem toNat_highPage (n : Byte) : (highPage n).toNat = 0xFF00 + n.toNat := by
  have := n.isLt
  simp [highPage, zext16]
  omega

end Sys2Proof.Machine
end

