-- ==== Sys2Proof/Laws/Fetch.lean ====
section
/-! SUPPORT. The main table is complete, so what a step fetches always decodes, and nothing is left over
(30_encoding.md R80, R92; 60_exceptions.md R301). -/

namespace Sys2Proof.Machine

/-- The table has one entry for every byte (30_encoding.md R92). -/
theorem mainTable_length : mainTable.length = 256 := by
  simp only [mainTable, List.length_append]
  rfl

theorem formOf_isSome (op : Byte) : ∃ f, formOf op = some f :=
  ⟨mainTable[op.toNat]'(by rw [mainTable_length]; exact op.isLt), List.getElem?_eq_getElem _⟩

/-- A first byte with exactly the operand bytes its row has decodes to one instruction. -/
theorem decode_exact (op : Byte) (operands : List Byte) (hlen : operands.length = operandBytesOf op) :
    ∃ i, decode (op :: operands) = .ok (i, []) := by
  obtain ⟨f, hf⟩ := formOf_isSome op
  simp only [operandBytesOf, hf] at hlen
  unfold decode
  cases f with
  | op i =>
    obtain rfl := List.length_eq_zero_iff.mp hlen
    exact ⟨i, by simp only [hf]⟩
  | byte mk =>
    obtain ⟨n, rfl⟩ := List.length_eq_one_iff.mp hlen
    exact ⟨mk n, by simp only [hf]⟩
  | word mk =>
    obtain ⟨lo, hi, rfl⟩ := List.length_eq_two.mp hlen
    exact ⟨mk (mkWord hi lo), by simp only [hf]⟩
  | cb =>
    obtain ⟨cbop, rfl⟩ := List.length_eq_one_iff.mp hlen
    exact ⟨decodeCb cbop, by simp only [hf]⟩

/-- What a step fetches decodes to one instruction. -/
theorem decode_fetchInstr (s : State) : ∃ i, decode s.fetchInstr.1 = .ok (i, []) :=
  decode_exact _ _ (State.fetchBytes_length _ _)

/-- Everything the fetch of an instruction does to the state, whatever its bytes. -/
theorem State.fetchInstr_snd (s : State) : ∃ accesses,
    s.fetchInstr.2 = { s with pc := s.pc + BitVec.ofNat 16 s.fetchInstr.1.length,
                              cycleCount := s.cycleCount + 4 * s.fetchInstr.1.length,
                              bus := { s.bus with trace := accesses ++ s.bus.trace } } ∧
      accesses.length = s.fetchInstr.1.length := by
  obtain ⟨accesses, heq, hlen⟩ := State.fetchBytes_snd (operandBytesOf s.fetch8.1 + 1) s
  have hn : s.fetchInstr.1.length = operandBytesOf s.fetch8.1 + 1 := by
    simp [State.fetchInstr]
  exact ⟨accesses, by rw [hn]; exact heq, by rw [hn]; exact hlen⟩

end Sys2Proof.Machine
end

