-- ==== Sys2Proof/Laws/Micro.lean ====
section
/-! SUPPORT. Said once: what any instruction can do to the state is a sequence of the primitive operations of
Machine/Ops.lean. A property that each primitive keeps is kept by every instruction. -/

namespace Sys2Proof.Machine

/-- One primitive operation on the state. -/
inductive Micro : State → State → Prop where
  | setReg8 (s : State) (r : Reg8) (v : Byte) : Micro s (s.setReg8 r v)
  | writeF (s : State) (v : Byte) : Micro s (s.writeF v)
  | setSp (s : State) (v : Word) : Micro s (s.setSp v)
  | setPc (s : State) (v : Word) : Micro s (s.setPc v)
  | setIme (s : State) (v : Bool) : Micro s (s.setIme v)
  | setMode (s : State) (m : Mode) : Micro s (s.setMode m)
  | internal (s : State) (n : Nat) : Micro s (s.internal n)
  | read (s : State) (addr : Word) : Micro s (s.memRead addr).2
  | write (s : State) (addr : Word) (v : Byte) : Micro s (s.memWrite addr v)

/-- A sequence of primitive operations. -/
inductive Micros : State → State → Prop where
  | refl (s : State) : Micros s s
  | tail {s t u : State} (steps : Micros s t) (last : Micro t u) : Micros s u

/-- A property that every primitive keeps is kept by a sequence of them. -/
theorem Micros.keeps {s t : State} (steps : Micros s t) (P : State → Prop)
    (each : ∀ u v, Micro u v → P u → P v) (hs : P s) : P t := by
  induction steps with
  | refl => exact hs
  | tail _ last ih => exact each _ _ last ih

theorem Micros.trans {s t u : State} (first : Micros s t) (second : Micros t u) : Micros s u := by
  induction second with
  | refl => exact first
  | tail _ last ih => exact ih.tail last

/-! ### The operations -/

section
variable {s t : State}

theorem Micros.setReg8 (steps : Micros s t) (r : Reg8) (v : Byte) : Micros s (t.setReg8 r v) := steps.tail (.setReg8 t r v)
theorem Micros.writeF (steps : Micros s t) (v : Byte) : Micros s (t.writeF v) := steps.tail (.writeF t v)
theorem Micros.setSp (steps : Micros s t) (v : Word) : Micros s (t.setSp v) := steps.tail (.setSp t v)
theorem Micros.setPc (steps : Micros s t) (v : Word) : Micros s (t.setPc v) := steps.tail (.setPc t v)
theorem Micros.setIme (steps : Micros s t) (v : Bool) : Micros s (t.setIme v) := steps.tail (.setIme t v)
theorem Micros.setMode (steps : Micros s t) (m : Mode) : Micros s (t.setMode m) := steps.tail (.setMode t m)
theorem Micros.internal (steps : Micros s t) (n : Nat) : Micros s (t.internal n) := steps.tail (.internal t n)
theorem Micros.read (steps : Micros s t) (addr : Word) : Micros s (t.memRead addr).2 := steps.tail (.read t addr)
theorem Micros.write (steps : Micros s t) (addr : Word) (v : Byte) : Micros s (t.memWrite addr v) :=
  steps.tail (.write t addr v)

theorem Micros.setFlags (steps : Micros s t) (z n h c : Bool) : Micros s (t.setFlags z n h c) := steps.writeF _

theorem Micros.setPair (steps : Micros s t) (p : Pair) (v : Word) : Micros s (t.setPair p v) := by
  cases p
  · exact (steps.setReg8 .b (hiByte v)).setReg8 .c (loByte v)
  · exact (steps.setReg8 .d (hiByte v)).setReg8 .e (loByte v)
  · exact (steps.setReg8 .h (hiByte v)).setReg8 .l (loByte v)
  · exact steps.setSp _

theorem Micros.readSrc (steps : Micros s t) (src : Src8) : Micros s (t.readSrc src).2 := by
  cases src
  · exact steps
  · exact steps.read _
  · exact steps

theorem Micros.getLoc (steps : Micros s t) (z : Loc8) : Micros s (t.getLoc z).2 := by
  cases z
  · exact steps
  · exact steps.read _

theorem Micros.putLoc (steps : Micros s t) (z : Loc8) (v : Byte) : Micros s (t.putLoc z v) := by
  cases z
  · exact steps.setReg8 _ _
  · exact steps.write _ _

theorem Micros.push16 (steps : Micros s t) (v : Word) : Micros s (t.push16 v) :=
  (((steps.setSp _).write _ _).setSp _).write _ _

theorem Micros.pop16 (steps : Micros s t) : Micros s t.pop16.2 := (((steps.read _).setSp _).read _).setSp _

theorem Micros.callTo (steps : Micros s t) (addr : Word) : Micros s (t.callTo addr) :=
  ((steps.internal 1).push16 _).setPc _

theorem Micros.returnToStack (steps : Micros s t) : Micros s t.returnToStack := (steps.pop16.internal 1).setPc _

theorem Micros.jumpTo (steps : Micros s t) (addr : Word) : Micros s (t.jumpTo addr) := (steps.internal 1).setPc _

theorem Micros.fetch8 (steps : Micros s t) : Micros s t.fetch8.2 := (steps.read _).setPc _

theorem Micros.fetchBytes (steps : Micros s t) (n : Nat) : Micros s (t.fetchBytes n).2 := by
  induction n generalizing t with
  | zero => exact steps
  | succ n ih => exact ih steps.fetch8

theorem Micros.fetchInstr (steps : Micros s t) : Micros s t.fetchInstr.2 := steps.fetch8.fetchBytes _

theorem Micros.idle (steps : Micros s t) : Micros s t.idle := by
  unfold State.idle
  by_cases hw : Config.wake (t.internal 1) = true
  · simpa [hw] using (steps.internal 1).setMode .running
  · simpa [hw] using steps.internal 1

end

/-! ### The meanings -/

section
variable (s : State)

theorem Micros.addToA (src : Src8) (cin : Bool) : Micros s (s.addToA src cin) :=
  (((Micros.refl s).readSrc src).setReg8 _ _).setFlags _ _ _ _
theorem Micros.subFromA (src : Src8) (cin : Bool) : Micros s (s.subFromA src cin) :=
  (((Micros.refl s).readSrc src).setReg8 _ _).setFlags _ _ _ _
theorem Micros.andA (src : Src8) : Micros s (s.andA src) := (((Micros.refl s).readSrc src).setReg8 _ _).setFlags _ _ _ _
theorem Micros.xorA (src : Src8) : Micros s (s.xorA src) := (((Micros.refl s).readSrc src).setReg8 _ _).setFlags _ _ _ _
theorem Micros.orA (src : Src8) : Micros s (s.orA src) := (((Micros.refl s).readSrc src).setReg8 _ _).setFlags _ _ _ _
theorem Micros.compareA (src : Src8) : Micros s (s.compareA src) := ((Micros.refl s).readSrc src).setFlags _ _ _ _
theorem Micros.inc8 (z : Loc8) : Micros s (s.inc8 z) := (((Micros.refl s).getLoc z).putLoc _ _).setFlags _ _ _ _
theorem Micros.dec8 (z : Loc8) : Micros s (s.dec8 z) := (((Micros.refl s).getLoc z).putLoc _ _).setFlags _ _ _ _
theorem Micros.decimalAdjust : Micros s s.decimalAdjust := ((Micros.refl s).setReg8 _ _).setFlags _ _ _ _
theorem Micros.complementA : Micros s s.complementA := ((Micros.refl s).setReg8 _ _).setFlags _ _ _ _
theorem Micros.incPair (p : Pair) : Micros s (s.incPair p) := ((Micros.refl s).internal 1).setPair _ _
theorem Micros.decPair (p : Pair) : Micros s (s.decPair p) := ((Micros.refl s).internal 1).setPair _ _
theorem Micros.addHl (p : Pair) : Micros s (s.addHl p) := (((Micros.refl s).internal 1).setPair _ _).setFlags _ _ _ _
theorem Micros.addSp (e : Byte) : Micros s (s.addSp e) := (((Micros.refl s).internal 2).setSp _).setFlags _ _ _ _
theorem Micros.loadHlSpOffset (e : Byte) : Micros s (s.loadHlSpOffset e) :=
  (((Micros.refl s).internal 1).setPair _ _).setFlags _ _ _ _
theorem Micros.rotateA (op : RotOp) : Micros s (s.rotateA op) := ((Micros.refl s).setReg8 _ _).setFlags _ _ _ _
theorem Micros.rotateLoc (op : RotOp) (z : Loc8) : Micros s (s.rotateLoc op z) :=
  (((Micros.refl s).getLoc z).putLoc _ _).setFlags _ _ _ _
theorem Micros.testBit (b : BitVec 3) (z : Loc8) : Micros s (s.testBit b z) :=
  ((Micros.refl s).getLoc z).setFlags _ _ _ _
theorem Micros.clearBit (b : BitVec 3) (z : Loc8) : Micros s (s.clearBit b z) := ((Micros.refl s).getLoc z).putLoc _ _
theorem Micros.putBit (b : BitVec 3) (z : Loc8) : Micros s (s.putBit b z) := ((Micros.refl s).getLoc z).putLoc _ _
theorem Micros.loadReg (dst src : Reg8) : Micros s (s.loadReg dst src) := (Micros.refl s).setReg8 _ _
theorem Micros.loadFrom (dst : Reg8) (addr : Word) : Micros s (s.loadFrom dst addr) :=
  ((Micros.refl s).read _).setReg8 _ _
theorem Micros.storeWord (addr v : Word) : Micros s (s.storeWord addr v) := ((Micros.refl s).write _ _).write _ _
theorem Micros.pushPair (p : StackPair) : Micros s (s.pushPair p) := ((Micros.refl s).internal 1).push16 _
theorem Micros.popPair (p : StackPair) : Micros s (s.popPair p) := by
  cases p
  · exact (Micros.refl s).pop16.setPair .bc _
  · exact (Micros.refl s).pop16.setPair .de _
  · exact (Micros.refl s).pop16.setPair .hl _
  · exact ((Micros.refl s).pop16.setReg8 _ _).writeF _
theorem Micros.whenCond (cc : Cond) {taken : State} (steps : Micros s taken) : Micros s (s.whenCond cc taken) := by
  unfold State.whenCond
  split
  · exact steps
  · exact .refl s
theorem Micros.returnWhen (cc : Cond) : Micros s (s.returnWhen cc) := by
  unfold State.returnWhen State.whenCond
  split
  · exact ((Micros.refl s).internal 1).returnToStack
  · exact (Micros.refl s).internal 1

end

/-- The CB prefix runs primitive operations too, whichever instruction its second byte selects. -/
theorem execPrefixCb_micros (cbop : Byte) (s : State) : ∃ t, execPrefixCb cbop s = .next t ∧ Micros s t := by
  unfold execPrefixCb
  split
  · cases rotOfIndex (fieldY cbop) <;> cases locOfIndex (fieldZ cbop) <;> exact ⟨_, rfl, .rotateLoc s _ _⟩
  · cases locOfIndex (fieldZ cbop) <;> exact ⟨_, rfl, .testBit s _ _⟩
  · cases locOfIndex (fieldZ cbop) <;> exact ⟨_, rfl, .clearBit s _ _⟩
  · cases locOfIndex (fieldZ cbop) <;> exact ⟨_, rfl, .putBit s _ _⟩

/-- Every instruction answers a next state, reached by primitive operations. -/
theorem exec_micros (i : Instr) (s : State) : ∃ t, exec i s = .next t ∧ Micros s t :=
  match i with
  | .nop => ⟨_, rfl, .refl s⟩
  | .ldBcD16 _ => ⟨_, rfl, (Micros.refl s).setPair _ _⟩
  | .ldAtBcA => ⟨_, rfl, (Micros.refl s).write _ _⟩
  | .incBc => ⟨_, rfl, .incPair s _⟩
  | .incB => ⟨_, rfl, .inc8 s _⟩
  | .decB => ⟨_, rfl, .dec8 s _⟩
  | .ldBD8 _ => ⟨_, rfl, (Micros.refl s).setReg8 _ _⟩
  | .rlca => ⟨_, rfl, .rotateA s _⟩
  | .ldAtA16Sp _ => ⟨_, rfl, .storeWord s _ _⟩
  | .addHlBc => ⟨_, rfl, .addHl s _⟩
  | .ldAAtBc => ⟨_, rfl, .loadFrom s _ _⟩
  | .decBc => ⟨_, rfl, .decPair s _⟩
  | .incC => ⟨_, rfl, .inc8 s _⟩
  | .decC => ⟨_, rfl, .dec8 s _⟩
  | .ldCD8 _ => ⟨_, rfl, (Micros.refl s).setReg8 _ _⟩
  | .rrca => ⟨_, rfl, .rotateA s _⟩
  | .stop _ => ⟨_, rfl, (Micros.refl s).setMode _⟩
  | .ldDeD16 _ => ⟨_, rfl, (Micros.refl s).setPair _ _⟩
  | .ldAtDeA => ⟨_, rfl, (Micros.refl s).write _ _⟩
  | .incDe => ⟨_, rfl, .incPair s _⟩
  | .incD => ⟨_, rfl, .inc8 s _⟩
  | .decD => ⟨_, rfl, .dec8 s _⟩
  | .ldDD8 _ => ⟨_, rfl, (Micros.refl s).setReg8 _ _⟩
  | .rla => ⟨_, rfl, .rotateA s _⟩
  | .jrE8 _ => ⟨_, rfl, (Micros.refl s).jumpTo _⟩
  | .addHlDe => ⟨_, rfl, .addHl s _⟩
  | .ldAAtDe => ⟨_, rfl, .loadFrom s _ _⟩
  | .decDe => ⟨_, rfl, .decPair s _⟩
  | .incE => ⟨_, rfl, .inc8 s _⟩
  | .decE => ⟨_, rfl, .dec8 s _⟩
  | .ldED8 _ => ⟨_, rfl, (Micros.refl s).setReg8 _ _⟩
  | .rra => ⟨_, rfl, .rotateA s _⟩
  | .jrNzE8 _ => ⟨_, rfl, .whenCond s _ ((Micros.refl s).jumpTo _)⟩
  | .ldHlD16 _ => ⟨_, rfl, (Micros.refl s).setPair _ _⟩
  | .ldAtHlIncA => ⟨_, rfl, ((Micros.refl s).write _ _).setPair _ _⟩
  | .incHl => ⟨_, rfl, .incPair s _⟩
  | .incH => ⟨_, rfl, .inc8 s _⟩
  | .decH => ⟨_, rfl, .dec8 s _⟩
  | .ldHD8 _ => ⟨_, rfl, (Micros.refl s).setReg8 _ _⟩
  | .daa => ⟨_, rfl, .decimalAdjust s⟩
  | .jrZE8 _ => ⟨_, rfl, .whenCond s _ ((Micros.refl s).jumpTo _)⟩
  | .addHlHl => ⟨_, rfl, .addHl s _⟩
  | .ldAAtHlInc => ⟨_, rfl, (Micros.loadFrom s _ _).setPair _ _⟩
  | .decHl => ⟨_, rfl, .decPair s _⟩
  | .incL => ⟨_, rfl, .inc8 s _⟩
  | .decL => ⟨_, rfl, .dec8 s _⟩
  | .ldLD8 _ => ⟨_, rfl, (Micros.refl s).setReg8 _ _⟩
  | .cpl => ⟨_, rfl, .complementA s⟩
  | .jrNcE8 _ => ⟨_, rfl, .whenCond s _ ((Micros.refl s).jumpTo _)⟩
  | .ldSpD16 _ => ⟨_, rfl, (Micros.refl s).setPair _ _⟩
  | .ldAtHlDecA => ⟨_, rfl, ((Micros.refl s).write _ _).setPair _ _⟩
  | .incSp => ⟨_, rfl, .incPair s _⟩
  | .incAtHl => ⟨_, rfl, .inc8 s _⟩
  | .decAtHl => ⟨_, rfl, .dec8 s _⟩
  | .ldAtHlD8 _ => ⟨_, rfl, (Micros.refl s).write _ _⟩
  | .scf => ⟨_, rfl, (Micros.refl s).setFlags _ _ _ _⟩
  | .jrCE8 _ => ⟨_, rfl, .whenCond s _ ((Micros.refl s).jumpTo _)⟩
  | .addHlSp => ⟨_, rfl, .addHl s _⟩
  | .ldAAtHlDec => ⟨_, rfl, (Micros.loadFrom s _ _).setPair _ _⟩
  | .decSp => ⟨_, rfl, .decPair s _⟩
  | .incA => ⟨_, rfl, .inc8 s _⟩
  | .decA => ⟨_, rfl, .dec8 s _⟩
  | .ldAD8 _ => ⟨_, rfl, (Micros.refl s).setReg8 _ _⟩
  | .ccf => ⟨_, rfl, (Micros.refl s).setFlags _ _ _ _⟩
  | .ldBB => ⟨_, rfl, .loadReg s _ _⟩
  | .ldBC => ⟨_, rfl, .loadReg s _ _⟩
  | .ldBD => ⟨_, rfl, .loadReg s _ _⟩
  | .ldBE => ⟨_, rfl, .loadReg s _ _⟩
  | .ldBH => ⟨_, rfl, .loadReg s _ _⟩
  | .ldBL => ⟨_, rfl, .loadReg s _ _⟩
  | .ldBAtHl => ⟨_, rfl, .loadFrom s _ _⟩
  | .ldBA => ⟨_, rfl, .loadReg s _ _⟩
  | .ldCB => ⟨_, rfl, .loadReg s _ _⟩
  | .ldCC => ⟨_, rfl, .loadReg s _ _⟩
  | .ldCD => ⟨_, rfl, .loadReg s _ _⟩
  | .ldCE => ⟨_, rfl, .loadReg s _ _⟩
  | .ldCH => ⟨_, rfl, .loadReg s _ _⟩
  | .ldCL => ⟨_, rfl, .loadReg s _ _⟩
  | .ldCAtHl => ⟨_, rfl, .loadFrom s _ _⟩
  | .ldCA => ⟨_, rfl, .loadReg s _ _⟩
  | .ldDB => ⟨_, rfl, .loadReg s _ _⟩
  | .ldDC => ⟨_, rfl, .loadReg s _ _⟩
  | .ldDD => ⟨_, rfl, .loadReg s _ _⟩
  | .ldDE => ⟨_, rfl, .loadReg s _ _⟩
  | .ldDH => ⟨_, rfl, .loadReg s _ _⟩
  | .ldDL => ⟨_, rfl, .loadReg s _ _⟩
  | .ldDAtHl => ⟨_, rfl, .loadFrom s _ _⟩
  | .ldDA => ⟨_, rfl, .loadReg s _ _⟩
  | .ldEB => ⟨_, rfl, .loadReg s _ _⟩
  | .ldEC => ⟨_, rfl, .loadReg s _ _⟩
  | .ldED => ⟨_, rfl, .loadReg s _ _⟩
  | .ldEE => ⟨_, rfl, .loadReg s _ _⟩
  | .ldEH => ⟨_, rfl, .loadReg s _ _⟩
  | .ldEL => ⟨_, rfl, .loadReg s _ _⟩
  | .ldEAtHl => ⟨_, rfl, .loadFrom s _ _⟩
  | .ldEA => ⟨_, rfl, .loadReg s _ _⟩
  | .ldHB => ⟨_, rfl, .loadReg s _ _⟩
  | .ldHC => ⟨_, rfl, .loadReg s _ _⟩
  | .ldHD => ⟨_, rfl, .loadReg s _ _⟩
  | .ldHE => ⟨_, rfl, .loadReg s _ _⟩
  | .ldHH => ⟨_, rfl, .loadReg s _ _⟩
  | .ldHL => ⟨_, rfl, .loadReg s _ _⟩
  | .ldHAtHl => ⟨_, rfl, .loadFrom s _ _⟩
  | .ldHA => ⟨_, rfl, .loadReg s _ _⟩
  | .ldLB => ⟨_, rfl, .loadReg s _ _⟩
  | .ldLC => ⟨_, rfl, .loadReg s _ _⟩
  | .ldLD => ⟨_, rfl, .loadReg s _ _⟩
  | .ldLE => ⟨_, rfl, .loadReg s _ _⟩
  | .ldLH => ⟨_, rfl, .loadReg s _ _⟩
  | .ldLL => ⟨_, rfl, .loadReg s _ _⟩
  | .ldLAtHl => ⟨_, rfl, .loadFrom s _ _⟩
  | .ldLA => ⟨_, rfl, .loadReg s _ _⟩
  | .ldAtHlB => ⟨_, rfl, (Micros.refl s).write _ _⟩
  | .ldAtHlC => ⟨_, rfl, (Micros.refl s).write _ _⟩
  | .ldAtHlD => ⟨_, rfl, (Micros.refl s).write _ _⟩
  | .ldAtHlE => ⟨_, rfl, (Micros.refl s).write _ _⟩
  | .ldAtHlH => ⟨_, rfl, (Micros.refl s).write _ _⟩
  | .ldAtHlL => ⟨_, rfl, (Micros.refl s).write _ _⟩
  | .halt => ⟨_, rfl, (Micros.refl s).setMode _⟩
  | .ldAtHlA => ⟨_, rfl, (Micros.refl s).write _ _⟩
  | .ldAB => ⟨_, rfl, .loadReg s _ _⟩
  | .ldAC => ⟨_, rfl, .loadReg s _ _⟩
  | .ldAD => ⟨_, rfl, .loadReg s _ _⟩
  | .ldAE => ⟨_, rfl, .loadReg s _ _⟩
  | .ldAH => ⟨_, rfl, .loadReg s _ _⟩
  | .ldAL => ⟨_, rfl, .loadReg s _ _⟩
  | .ldAAtHl => ⟨_, rfl, .loadFrom s _ _⟩
  | .ldAA => ⟨_, rfl, .loadReg s _ _⟩
  | .addAB => ⟨_, rfl, .addToA s _ _⟩
  | .addAC => ⟨_, rfl, .addToA s _ _⟩
  | .addAD => ⟨_, rfl, .addToA s _ _⟩
  | .addAE => ⟨_, rfl, .addToA s _ _⟩
  | .addAH => ⟨_, rfl, .addToA s _ _⟩
  | .addAL => ⟨_, rfl, .addToA s _ _⟩
  | .addAAtHl => ⟨_, rfl, .addToA s _ _⟩
  | .addAA => ⟨_, rfl, .addToA s _ _⟩
  | .adcAB => ⟨_, rfl, .addToA s _ _⟩
  | .adcAC => ⟨_, rfl, .addToA s _ _⟩
  | .adcAD => ⟨_, rfl, .addToA s _ _⟩
  | .adcAE => ⟨_, rfl, .addToA s _ _⟩
  | .adcAH => ⟨_, rfl, .addToA s _ _⟩
  | .adcAL => ⟨_, rfl, .addToA s _ _⟩
  | .adcAAtHl => ⟨_, rfl, .addToA s _ _⟩
  | .adcAA => ⟨_, rfl, .addToA s _ _⟩
  | .subB => ⟨_, rfl, .subFromA s _ _⟩
  | .subC => ⟨_, rfl, .subFromA s _ _⟩
  | .subD => ⟨_, rfl, .subFromA s _ _⟩
  | .subE => ⟨_, rfl, .subFromA s _ _⟩
  | .subH => ⟨_, rfl, .subFromA s _ _⟩
  | .subL => ⟨_, rfl, .subFromA s _ _⟩
  | .subAtHl => ⟨_, rfl, .subFromA s _ _⟩
  | .subA => ⟨_, rfl, .subFromA s _ _⟩
  | .sbcAB => ⟨_, rfl, .subFromA s _ _⟩
  | .sbcAC => ⟨_, rfl, .subFromA s _ _⟩
  | .sbcAD => ⟨_, rfl, .subFromA s _ _⟩
  | .sbcAE => ⟨_, rfl, .subFromA s _ _⟩
  | .sbcAH => ⟨_, rfl, .subFromA s _ _⟩
  | .sbcAL => ⟨_, rfl, .subFromA s _ _⟩
  | .sbcAAtHl => ⟨_, rfl, .subFromA s _ _⟩
  | .sbcAA => ⟨_, rfl, .subFromA s _ _⟩
  | .andB => ⟨_, rfl, .andA s _⟩
  | .andC => ⟨_, rfl, .andA s _⟩
  | .andD => ⟨_, rfl, .andA s _⟩
  | .andE => ⟨_, rfl, .andA s _⟩
  | .andH => ⟨_, rfl, .andA s _⟩
  | .andL => ⟨_, rfl, .andA s _⟩
  | .andAtHl => ⟨_, rfl, .andA s _⟩
  | .andA => ⟨_, rfl, .andA s _⟩
  | .xorB => ⟨_, rfl, .xorA s _⟩
  | .xorC => ⟨_, rfl, .xorA s _⟩
  | .xorD => ⟨_, rfl, .xorA s _⟩
  | .xorE => ⟨_, rfl, .xorA s _⟩
  | .xorH => ⟨_, rfl, .xorA s _⟩
  | .xorL => ⟨_, rfl, .xorA s _⟩
  | .xorAtHl => ⟨_, rfl, .xorA s _⟩
  | .xorA => ⟨_, rfl, .xorA s _⟩
  | .orB => ⟨_, rfl, .orA s _⟩
  | .orC => ⟨_, rfl, .orA s _⟩
  | .orD => ⟨_, rfl, .orA s _⟩
  | .orE => ⟨_, rfl, .orA s _⟩
  | .orH => ⟨_, rfl, .orA s _⟩
  | .orL => ⟨_, rfl, .orA s _⟩
  | .orAtHl => ⟨_, rfl, .orA s _⟩
  | .orA => ⟨_, rfl, .orA s _⟩
  | .cpB => ⟨_, rfl, .compareA s _⟩
  | .cpC => ⟨_, rfl, .compareA s _⟩
  | .cpD => ⟨_, rfl, .compareA s _⟩
  | .cpE => ⟨_, rfl, .compareA s _⟩
  | .cpH => ⟨_, rfl, .compareA s _⟩
  | .cpL => ⟨_, rfl, .compareA s _⟩
  | .cpAtHl => ⟨_, rfl, .compareA s _⟩
  | .cpA => ⟨_, rfl, .compareA s _⟩
  | .retNz => ⟨_, rfl, .returnWhen s _⟩
  | .popBc => ⟨_, rfl, .popPair s _⟩
  | .jpNzA16 _ => ⟨_, rfl, .whenCond s _ ((Micros.refl s).jumpTo _)⟩
  | .jpA16 _ => ⟨_, rfl, (Micros.refl s).jumpTo _⟩
  | .callNzA16 _ => ⟨_, rfl, .whenCond s _ ((Micros.refl s).callTo _)⟩
  | .pushBc => ⟨_, rfl, .pushPair s _⟩
  | .addAD8 _ => ⟨_, rfl, .addToA s _ _⟩
  | .rst00 => ⟨_, rfl, (Micros.refl s).callTo _⟩
  | .retZ => ⟨_, rfl, .returnWhen s _⟩
  | .ret => ⟨_, rfl, (Micros.refl s).returnToStack⟩
  | .jpZA16 _ => ⟨_, rfl, .whenCond s _ ((Micros.refl s).jumpTo _)⟩
  | .prefixCb cbop => execPrefixCb_micros cbop s
  | .callZA16 _ => ⟨_, rfl, .whenCond s _ ((Micros.refl s).callTo _)⟩
  | .callA16 _ => ⟨_, rfl, (Micros.refl s).callTo _⟩
  | .adcAD8 _ => ⟨_, rfl, .addToA s _ _⟩
  | .rst08 => ⟨_, rfl, (Micros.refl s).callTo _⟩
  | .retNc => ⟨_, rfl, .returnWhen s _⟩
  | .popDe => ⟨_, rfl, .popPair s _⟩
  | .jpNcA16 _ => ⟨_, rfl, .whenCond s _ ((Micros.refl s).jumpTo _)⟩
  | .illegalD3 => ⟨_, rfl, (Micros.refl s).setMode _⟩
  | .callNcA16 _ => ⟨_, rfl, .whenCond s _ ((Micros.refl s).callTo _)⟩
  | .pushDe => ⟨_, rfl, .pushPair s _⟩
  | .subD8 _ => ⟨_, rfl, .subFromA s _ _⟩
  | .rst10 => ⟨_, rfl, (Micros.refl s).callTo _⟩
  | .retC => ⟨_, rfl, .returnWhen s _⟩
  | .reti => ⟨_, rfl, (Micros.refl s).returnToStack.setIme _⟩
  | .jpCA16 _ => ⟨_, rfl, .whenCond s _ ((Micros.refl s).jumpTo _)⟩
  | .illegalDB => ⟨_, rfl, (Micros.refl s).setMode _⟩
  | .callCA16 _ => ⟨_, rfl, .whenCond s _ ((Micros.refl s).callTo _)⟩
  | .illegalDD => ⟨_, rfl, (Micros.refl s).setMode _⟩
  | .sbcAD8 _ => ⟨_, rfl, .subFromA s _ _⟩
  | .rst18 => ⟨_, rfl, (Micros.refl s).callTo _⟩
  | .ldhAtA8A _ => ⟨_, rfl, (Micros.refl s).write _ _⟩
  | .popHl => ⟨_, rfl, .popPair s _⟩
  | .ldAtCA => ⟨_, rfl, (Micros.refl s).write _ _⟩
  | .illegalE3 => ⟨_, rfl, (Micros.refl s).setMode _⟩
  | .illegalE4 => ⟨_, rfl, (Micros.refl s).setMode _⟩
  | .pushHl => ⟨_, rfl, .pushPair s _⟩
  | .andD8 _ => ⟨_, rfl, .andA s _⟩
  | .rst20 => ⟨_, rfl, (Micros.refl s).callTo _⟩
  | .addSpE8 _ => ⟨_, rfl, .addSp s _⟩
  | .jpHl => ⟨_, rfl, (Micros.refl s).setPc _⟩
  | .ldAtA16A _ => ⟨_, rfl, (Micros.refl s).write _ _⟩
  | .illegalEB => ⟨_, rfl, (Micros.refl s).setMode _⟩
  | .illegalEC => ⟨_, rfl, (Micros.refl s).setMode _⟩
  | .illegalED => ⟨_, rfl, (Micros.refl s).setMode _⟩
  | .xorD8 _ => ⟨_, rfl, .xorA s _⟩
  | .rst28 => ⟨_, rfl, (Micros.refl s).callTo _⟩
  | .ldhAAtA8 _ => ⟨_, rfl, .loadFrom s _ _⟩
  | .popAf => ⟨_, rfl, .popPair s _⟩
  | .ldAAtC => ⟨_, rfl, .loadFrom s _ _⟩
  | .di => ⟨_, rfl, (Micros.refl s).setIme _⟩
  | .illegalF4 => ⟨_, rfl, (Micros.refl s).setMode _⟩
  | .pushAf => ⟨_, rfl, .pushPair s _⟩
  | .orD8 _ => ⟨_, rfl, .orA s _⟩
  | .rst30 => ⟨_, rfl, (Micros.refl s).callTo _⟩
  | .ldHlSpE8 _ => ⟨_, rfl, .loadHlSpOffset s _⟩
  | .ldSpHl => ⟨_, rfl, ((Micros.refl s).internal _).setSp _⟩
  | .ldAAtA16 _ => ⟨_, rfl, .loadFrom s _ _⟩
  | .ei => ⟨_, rfl, (Micros.refl s).setIme _⟩
  | .illegalFC => ⟨_, rfl, (Micros.refl s).setMode _⟩
  | .illegalFD => ⟨_, rfl, (Micros.refl s).setMode _⟩
  | .cpD8 _ => ⟨_, rfl, .compareA s _⟩
  | .rst38 => ⟨_, rfl, (Micros.refl s).callTo _⟩
  | .rlcR _ => ⟨_, rfl, .rotateLoc s _ _⟩
  | .rlcAtHl => ⟨_, rfl, .rotateLoc s _ _⟩
  | .rrcR _ => ⟨_, rfl, .rotateLoc s _ _⟩
  | .rrcAtHl => ⟨_, rfl, .rotateLoc s _ _⟩
  | .rlR _ => ⟨_, rfl, .rotateLoc s _ _⟩
  | .rlAtHl => ⟨_, rfl, .rotateLoc s _ _⟩
  | .rrR _ => ⟨_, rfl, .rotateLoc s _ _⟩
  | .rrAtHl => ⟨_, rfl, .rotateLoc s _ _⟩
  | .slaR _ => ⟨_, rfl, .rotateLoc s _ _⟩
  | .slaAtHl => ⟨_, rfl, .rotateLoc s _ _⟩
  | .sraR _ => ⟨_, rfl, .rotateLoc s _ _⟩
  | .sraAtHl => ⟨_, rfl, .rotateLoc s _ _⟩
  | .swapR _ => ⟨_, rfl, .rotateLoc s _ _⟩
  | .swapAtHl => ⟨_, rfl, .rotateLoc s _ _⟩
  | .srlR _ => ⟨_, rfl, .rotateLoc s _ _⟩
  | .srlAtHl => ⟨_, rfl, .rotateLoc s _ _⟩
  | .bitR _ _ => ⟨_, rfl, .testBit s _ _⟩
  | .bitAtHl _ => ⟨_, rfl, .testBit s _ _⟩
  | .resR _ _ => ⟨_, rfl, .clearBit s _ _⟩
  | .resAtHl _ => ⟨_, rfl, .clearBit s _ _⟩
  | .setR _ _ => ⟨_, rfl, .putBit s _ _⟩
  | .setAtHl _ => ⟨_, rfl, .putBit s _ _⟩

/-- A step that answers a next state reaches it by primitive operations. -/
theorem step_micros {s t : State} (hs : step s = .next t) : Micros s t := by
  unfold step at hs
  split at hs
  · dsimp only at hs
    split at hs
    · next i _ _ =>
      obtain ⟨u, hu, hm⟩ := exec_micros i s.fetchInstr.2
      rw [hu] at hs
      cases hs
      exact ((Micros.refl s).fetchInstr).trans hm
    · cases hs
      exact ((Micros.refl s).fetchInstr).setMode _
  · cases hs; exact (Micros.refl s).idle
  · cases hs; exact (Micros.refl s).idle
  · cases hs

end Sys2Proof.Machine
end

