-- ==== Sys2Proof/Laws/Operands.lean ====
section
/-! SUPPORT. One lemma per field for the operand forms (41_alu8.md R110, 43_rotate_shift.md R170), for pair writes of
POP, and for a conditional transfer (47_control.md R251). -/

namespace Sys2Proof.Machine

/-! ### readSrc: a read at most -/

@[simp] theorem State.readSrc_a (s : State) (src : Src8) : (s.readSrc src).2.a = s.a := by cases src <;> rfl
@[simp] theorem State.readSrc_f (s : State) (src : Src8) : (s.readSrc src).2.f = s.f := by cases src <;> rfl
@[simp] theorem State.readSrc_b (s : State) (src : Src8) : (s.readSrc src).2.b = s.b := by cases src <;> rfl
@[simp] theorem State.readSrc_c (s : State) (src : Src8) : (s.readSrc src).2.c = s.c := by cases src <;> rfl
@[simp] theorem State.readSrc_d (s : State) (src : Src8) : (s.readSrc src).2.d = s.d := by cases src <;> rfl
@[simp] theorem State.readSrc_e (s : State) (src : Src8) : (s.readSrc src).2.e = s.e := by cases src <;> rfl
@[simp] theorem State.readSrc_h (s : State) (src : Src8) : (s.readSrc src).2.h = s.h := by cases src <;> rfl
@[simp] theorem State.readSrc_l (s : State) (src : Src8) : (s.readSrc src).2.l = s.l := by cases src <;> rfl
@[simp] theorem State.readSrc_sp (s : State) (src : Src8) : (s.readSrc src).2.sp = s.sp := by cases src <;> rfl
@[simp] theorem State.readSrc_pc (s : State) (src : Src8) : (s.readSrc src).2.pc = s.pc := by cases src <;> rfl
@[simp] theorem State.readSrc_ime (s : State) (src : Src8) : (s.readSrc src).2.ime = s.ime := by cases src <;> rfl
@[simp] theorem State.readSrc_mode (s : State) (src : Src8) : (s.readSrc src).2.mode = s.mode := by cases src <;> rfl
@[simp] theorem State.readSrc_reg8 (s : State) (src : Src8) (r : Reg8) : (s.readSrc src).2.reg8 r = s.reg8 r := by
  cases src <;> cases r <;> rfl
@[simp] theorem State.readSrc_byteAt (s : State) (src : Src8) (addr : Word) : (s.readSrc src).2.byteAt addr = s.byteAt addr := by
  cases src <;> rfl
@[simp] theorem State.readSrc_regions (s : State) (src : Src8) : (s.readSrc src).2.bus.regions = s.bus.regions := by
  cases src <;> rfl
theorem State.readSrc_cycleCount (s : State) (src : Src8) :
    (s.readSrc src).2.cycleCount = s.cycleCount + (if src = .atHl then 4 else 0) := by
  cases src <;> rfl
theorem State.readSrc_bus (s : State) (src : Src8) :
    (s.readSrc src).2.bus = if src = .atHl then (s.bus.read s.hl).2 else s.bus := by
  cases src <;> rfl

/-! ### getLoc: a read at most -/

@[simp] theorem State.getLoc_a (s : State) (z : Loc8) : (s.getLoc z).2.a = s.a := by cases z <;> rfl
@[simp] theorem State.getLoc_f (s : State) (z : Loc8) : (s.getLoc z).2.f = s.f := by cases z <;> rfl
@[simp] theorem State.getLoc_b (s : State) (z : Loc8) : (s.getLoc z).2.b = s.b := by cases z <;> rfl
@[simp] theorem State.getLoc_c (s : State) (z : Loc8) : (s.getLoc z).2.c = s.c := by cases z <;> rfl
@[simp] theorem State.getLoc_d (s : State) (z : Loc8) : (s.getLoc z).2.d = s.d := by cases z <;> rfl
@[simp] theorem State.getLoc_e (s : State) (z : Loc8) : (s.getLoc z).2.e = s.e := by cases z <;> rfl
@[simp] theorem State.getLoc_h (s : State) (z : Loc8) : (s.getLoc z).2.h = s.h := by cases z <;> rfl
@[simp] theorem State.getLoc_l (s : State) (z : Loc8) : (s.getLoc z).2.l = s.l := by cases z <;> rfl
@[simp] theorem State.getLoc_sp (s : State) (z : Loc8) : (s.getLoc z).2.sp = s.sp := by cases z <;> rfl
@[simp] theorem State.getLoc_pc (s : State) (z : Loc8) : (s.getLoc z).2.pc = s.pc := by cases z <;> rfl
@[simp] theorem State.getLoc_ime (s : State) (z : Loc8) : (s.getLoc z).2.ime = s.ime := by cases z <;> rfl
@[simp] theorem State.getLoc_mode (s : State) (z : Loc8) : (s.getLoc z).2.mode = s.mode := by cases z <;> rfl
@[simp] theorem State.getLoc_reg8 (s : State) (z : Loc8) (r : Reg8) : (s.getLoc z).2.reg8 r = s.reg8 r := by
  cases z <;> cases r <;> rfl
@[simp] theorem State.getLoc_byteAt (s : State) (z : Loc8) (addr : Word) : (s.getLoc z).2.byteAt addr = s.byteAt addr := by
  cases z <;> rfl
@[simp] theorem State.getLoc_regions (s : State) (z : Loc8) : (s.getLoc z).2.bus.regions = s.bus.regions := by
  cases z <;> rfl
theorem State.getLoc_cycleCount (s : State) (z : Loc8) :
    (s.getLoc z).2.cycleCount = s.cycleCount + (if z = .atHl then 4 else 0) := by
  cases z <;> rfl
theorem State.getLoc_bus (s : State) (z : Loc8) :
    (s.getLoc z).2.bus = if z = .atHl then (s.bus.read s.hl).2 else s.bus := by
  cases z <;> rfl

/-! ### putLoc: a register written, or one byte at HL -/

@[simp] theorem State.putLoc_f (s : State) (z : Loc8) (v : Byte) : (s.putLoc z v).f = s.f := by
  cases z <;> simp [State.putLoc]
@[simp] theorem State.putLoc_sp (s : State) (z : Loc8) (v : Byte) : (s.putLoc z v).sp = s.sp := by
  cases z <;> simp [State.putLoc]
@[simp] theorem State.putLoc_pc (s : State) (z : Loc8) (v : Byte) : (s.putLoc z v).pc = s.pc := by
  cases z <;> simp [State.putLoc]
@[simp] theorem State.putLoc_ime (s : State) (z : Loc8) (v : Byte) : (s.putLoc z v).ime = s.ime := by
  cases z <;> simp [State.putLoc]
@[simp] theorem State.putLoc_mode (s : State) (z : Loc8) (v : Byte) : (s.putLoc z v).mode = s.mode := by
  cases z <;> simp [State.putLoc]
theorem State.putLoc_reg8 (s : State) (z : Loc8) (v : Byte) (r : Reg8) :
    (s.putLoc z v).reg8 r = if z = .reg r then v else s.reg8 r := by
  cases z <;> simp [State.putLoc]
@[simp] theorem State.putLoc_regions (s : State) (z : Loc8) (v : Byte) : (s.putLoc z v).bus.regions = s.bus.regions := by
  cases z <;> simp [State.putLoc]
theorem State.putLoc_cycleCount (s : State) (z : Loc8) (v : Byte) :
    (s.putLoc z v).cycleCount = s.cycleCount + (if z = .atHl then 4 else 0) := by
  cases z <;> simp [State.putLoc]
theorem State.putLoc_bus (s : State) (z : Loc8) (v : Byte) :
    (s.putLoc z v).bus = if z = .atHl then s.bus.write s.hl v else s.bus := by
  cases z <;> simp [State.putLoc]

/-! ### setStackPair: two registers, or A and F -/

@[simp] theorem State.setStackPair_sp (s : State) (p : StackPair) (v : Word) : (s.setStackPair p v).sp = s.sp := by
  cases p <;> simp [State.setStackPair]
@[simp] theorem State.setStackPair_pc (s : State) (p : StackPair) (v : Word) : (s.setStackPair p v).pc = s.pc := by
  cases p <;> simp [State.setStackPair]
@[simp] theorem State.setStackPair_ime (s : State) (p : StackPair) (v : Word) : (s.setStackPair p v).ime = s.ime := by
  cases p <;> simp [State.setStackPair]
@[simp] theorem State.setStackPair_mode (s : State) (p : StackPair) (v : Word) : (s.setStackPair p v).mode = s.mode := by
  cases p <;> simp [State.setStackPair]
@[simp] theorem State.setStackPair_cycleCount (s : State) (p : StackPair) (v : Word) : (s.setStackPair p v).cycleCount = s.cycleCount := by
  cases p <;> simp [State.setStackPair]
@[simp] theorem State.setStackPair_bus (s : State) (p : StackPair) (v : Word) : (s.setStackPair p v).bus = s.bus := by
  cases p <;> simp [State.setStackPair]

theorem State.setStackPair_f (s : State) (p : StackPair) (v : Word) :
    (s.setStackPair p v).f = if p = .af then loByte v &&& 0xF0 else s.f := by
  cases p <;> simp [State.setStackPair]

/-! ### Conditional transfers -/

/-- Anything read from the state after a conditional transfer: as taken when the condition holds, else as before. -/
theorem State.apply_whenCond {α : Type} (read : State → α) (s : State) (cc : Cond) (taken : State) :
    read (s.whenCond cc taken) = if s.cond cc then read taken else read s := by
  unfold State.whenCond
  split <;> rfl

@[simp] theorem State.whenCond_a (s : State) (cc : Cond) (taken : State) :
    (s.whenCond cc taken).a = if s.cond cc then taken.a else s.a :=
  State.apply_whenCond State.a s cc taken
@[simp] theorem State.whenCond_f (s : State) (cc : Cond) (taken : State) :
    (s.whenCond cc taken).f = if s.cond cc then taken.f else s.f :=
  State.apply_whenCond State.f s cc taken
@[simp] theorem State.whenCond_b (s : State) (cc : Cond) (taken : State) :
    (s.whenCond cc taken).b = if s.cond cc then taken.b else s.b :=
  State.apply_whenCond State.b s cc taken
@[simp] theorem State.whenCond_c (s : State) (cc : Cond) (taken : State) :
    (s.whenCond cc taken).c = if s.cond cc then taken.c else s.c :=
  State.apply_whenCond State.c s cc taken
@[simp] theorem State.whenCond_d (s : State) (cc : Cond) (taken : State) :
    (s.whenCond cc taken).d = if s.cond cc then taken.d else s.d :=
  State.apply_whenCond State.d s cc taken
@[simp] theorem State.whenCond_e (s : State) (cc : Cond) (taken : State) :
    (s.whenCond cc taken).e = if s.cond cc then taken.e else s.e :=
  State.apply_whenCond State.e s cc taken
@[simp] theorem State.whenCond_h (s : State) (cc : Cond) (taken : State) :
    (s.whenCond cc taken).h = if s.cond cc then taken.h else s.h :=
  State.apply_whenCond State.h s cc taken
@[simp] theorem State.whenCond_l (s : State) (cc : Cond) (taken : State) :
    (s.whenCond cc taken).l = if s.cond cc then taken.l else s.l :=
  State.apply_whenCond State.l s cc taken
@[simp] theorem State.whenCond_sp (s : State) (cc : Cond) (taken : State) :
    (s.whenCond cc taken).sp = if s.cond cc then taken.sp else s.sp :=
  State.apply_whenCond State.sp s cc taken
@[simp] theorem State.whenCond_pc (s : State) (cc : Cond) (taken : State) :
    (s.whenCond cc taken).pc = if s.cond cc then taken.pc else s.pc :=
  State.apply_whenCond State.pc s cc taken
@[simp] theorem State.whenCond_ime (s : State) (cc : Cond) (taken : State) :
    (s.whenCond cc taken).ime = if s.cond cc then taken.ime else s.ime :=
  State.apply_whenCond State.ime s cc taken
@[simp] theorem State.whenCond_mode (s : State) (cc : Cond) (taken : State) :
    (s.whenCond cc taken).mode = if s.cond cc then taken.mode else s.mode :=
  State.apply_whenCond State.mode s cc taken
@[simp] theorem State.whenCond_cycleCount (s : State) (cc : Cond) (taken : State) :
    (s.whenCond cc taken).cycleCount = if s.cond cc then taken.cycleCount else s.cycleCount :=
  State.apply_whenCond State.cycleCount s cc taken
@[simp] theorem State.whenCond_bus (s : State) (cc : Cond) (taken : State) :
    (s.whenCond cc taken).bus = if s.cond cc then taken.bus else s.bus :=
  State.apply_whenCond State.bus s cc taken

@[simp] theorem State.internal_cond (s : State) (n : Nat) (cc : Cond) : (s.internal n).cond cc = s.cond cc := by
  cases cc <;> rfl

end Sys2Proof.Machine
end

