-- ==== Sys2Proof/Laws/PerInstr.lean ====
section
/-! SUPPORT. Statements for all instructions, one lemma per constructor: the encoding has the length of the table's row
(30_encoding.md R80). -/

namespace Sys2Proof

/-- The encoding of an instruction has as many bytes as its row of spec/opcode_table.json says. -/
def Laws.EncodedLength.Statement (i : Instr) : Prop := (encode i).length = i.length

theorem Laws.EncodedLength.nop : Laws.EncodedLength.Statement (.nop) := rfl
theorem Laws.EncodedLength.ldBcD16 (nn : Word) : Laws.EncodedLength.Statement (.ldBcD16 nn) := rfl
theorem Laws.EncodedLength.ldAtBcA : Laws.EncodedLength.Statement (.ldAtBcA) := rfl
theorem Laws.EncodedLength.incBc : Laws.EncodedLength.Statement (.incBc) := rfl
theorem Laws.EncodedLength.incB : Laws.EncodedLength.Statement (.incB) := rfl
theorem Laws.EncodedLength.decB : Laws.EncodedLength.Statement (.decB) := rfl
theorem Laws.EncodedLength.ldBD8 (n : Byte) : Laws.EncodedLength.Statement (.ldBD8 n) := rfl
theorem Laws.EncodedLength.rlca : Laws.EncodedLength.Statement (.rlca) := rfl
theorem Laws.EncodedLength.ldAtA16Sp (nn : Word) : Laws.EncodedLength.Statement (.ldAtA16Sp nn) := rfl
theorem Laws.EncodedLength.addHlBc : Laws.EncodedLength.Statement (.addHlBc) := rfl
theorem Laws.EncodedLength.ldAAtBc : Laws.EncodedLength.Statement (.ldAAtBc) := rfl
theorem Laws.EncodedLength.decBc : Laws.EncodedLength.Statement (.decBc) := rfl
theorem Laws.EncodedLength.incC : Laws.EncodedLength.Statement (.incC) := rfl
theorem Laws.EncodedLength.decC : Laws.EncodedLength.Statement (.decC) := rfl
theorem Laws.EncodedLength.ldCD8 (n : Byte) : Laws.EncodedLength.Statement (.ldCD8 n) := rfl
theorem Laws.EncodedLength.rrca : Laws.EncodedLength.Statement (.rrca) := rfl
theorem Laws.EncodedLength.stop (x : Byte) : Laws.EncodedLength.Statement (.stop x) := rfl
theorem Laws.EncodedLength.ldDeD16 (nn : Word) : Laws.EncodedLength.Statement (.ldDeD16 nn) := rfl
theorem Laws.EncodedLength.ldAtDeA : Laws.EncodedLength.Statement (.ldAtDeA) := rfl
theorem Laws.EncodedLength.incDe : Laws.EncodedLength.Statement (.incDe) := rfl
theorem Laws.EncodedLength.incD : Laws.EncodedLength.Statement (.incD) := rfl
theorem Laws.EncodedLength.decD : Laws.EncodedLength.Statement (.decD) := rfl
theorem Laws.EncodedLength.ldDD8 (n : Byte) : Laws.EncodedLength.Statement (.ldDD8 n) := rfl
theorem Laws.EncodedLength.rla : Laws.EncodedLength.Statement (.rla) := rfl
theorem Laws.EncodedLength.jrE8 (e : Byte) : Laws.EncodedLength.Statement (.jrE8 e) := rfl
theorem Laws.EncodedLength.addHlDe : Laws.EncodedLength.Statement (.addHlDe) := rfl
theorem Laws.EncodedLength.ldAAtDe : Laws.EncodedLength.Statement (.ldAAtDe) := rfl
theorem Laws.EncodedLength.decDe : Laws.EncodedLength.Statement (.decDe) := rfl
theorem Laws.EncodedLength.incE : Laws.EncodedLength.Statement (.incE) := rfl
theorem Laws.EncodedLength.decE : Laws.EncodedLength.Statement (.decE) := rfl
theorem Laws.EncodedLength.ldED8 (n : Byte) : Laws.EncodedLength.Statement (.ldED8 n) := rfl
theorem Laws.EncodedLength.rra : Laws.EncodedLength.Statement (.rra) := rfl
theorem Laws.EncodedLength.jrNzE8 (e : Byte) : Laws.EncodedLength.Statement (.jrNzE8 e) := rfl
theorem Laws.EncodedLength.ldHlD16 (nn : Word) : Laws.EncodedLength.Statement (.ldHlD16 nn) := rfl
theorem Laws.EncodedLength.ldAtHlIncA : Laws.EncodedLength.Statement (.ldAtHlIncA) := rfl
theorem Laws.EncodedLength.incHl : Laws.EncodedLength.Statement (.incHl) := rfl
theorem Laws.EncodedLength.incH : Laws.EncodedLength.Statement (.incH) := rfl
theorem Laws.EncodedLength.decH : Laws.EncodedLength.Statement (.decH) := rfl
theorem Laws.EncodedLength.ldHD8 (n : Byte) : Laws.EncodedLength.Statement (.ldHD8 n) := rfl
theorem Laws.EncodedLength.daa : Laws.EncodedLength.Statement (.daa) := rfl
theorem Laws.EncodedLength.jrZE8 (e : Byte) : Laws.EncodedLength.Statement (.jrZE8 e) := rfl
theorem Laws.EncodedLength.addHlHl : Laws.EncodedLength.Statement (.addHlHl) := rfl
theorem Laws.EncodedLength.ldAAtHlInc : Laws.EncodedLength.Statement (.ldAAtHlInc) := rfl
theorem Laws.EncodedLength.decHl : Laws.EncodedLength.Statement (.decHl) := rfl
theorem Laws.EncodedLength.incL : Laws.EncodedLength.Statement (.incL) := rfl
theorem Laws.EncodedLength.decL : Laws.EncodedLength.Statement (.decL) := rfl
theorem Laws.EncodedLength.ldLD8 (n : Byte) : Laws.EncodedLength.Statement (.ldLD8 n) := rfl
theorem Laws.EncodedLength.cpl : Laws.EncodedLength.Statement (.cpl) := rfl
theorem Laws.EncodedLength.jrNcE8 (e : Byte) : Laws.EncodedLength.Statement (.jrNcE8 e) := rfl
theorem Laws.EncodedLength.ldSpD16 (nn : Word) : Laws.EncodedLength.Statement (.ldSpD16 nn) := rfl
theorem Laws.EncodedLength.ldAtHlDecA : Laws.EncodedLength.Statement (.ldAtHlDecA) := rfl
theorem Laws.EncodedLength.incSp : Laws.EncodedLength.Statement (.incSp) := rfl
theorem Laws.EncodedLength.incAtHl : Laws.EncodedLength.Statement (.incAtHl) := rfl
theorem Laws.EncodedLength.decAtHl : Laws.EncodedLength.Statement (.decAtHl) := rfl
theorem Laws.EncodedLength.ldAtHlD8 (n : Byte) : Laws.EncodedLength.Statement (.ldAtHlD8 n) := rfl
theorem Laws.EncodedLength.scf : Laws.EncodedLength.Statement (.scf) := rfl
theorem Laws.EncodedLength.jrCE8 (e : Byte) : Laws.EncodedLength.Statement (.jrCE8 e) := rfl
theorem Laws.EncodedLength.addHlSp : Laws.EncodedLength.Statement (.addHlSp) := rfl
theorem Laws.EncodedLength.ldAAtHlDec : Laws.EncodedLength.Statement (.ldAAtHlDec) := rfl
theorem Laws.EncodedLength.decSp : Laws.EncodedLength.Statement (.decSp) := rfl
theorem Laws.EncodedLength.incA : Laws.EncodedLength.Statement (.incA) := rfl
theorem Laws.EncodedLength.decA : Laws.EncodedLength.Statement (.decA) := rfl
theorem Laws.EncodedLength.ldAD8 (n : Byte) : Laws.EncodedLength.Statement (.ldAD8 n) := rfl
theorem Laws.EncodedLength.ccf : Laws.EncodedLength.Statement (.ccf) := rfl
theorem Laws.EncodedLength.ldBB : Laws.EncodedLength.Statement (.ldBB) := rfl
theorem Laws.EncodedLength.ldBC : Laws.EncodedLength.Statement (.ldBC) := rfl
theorem Laws.EncodedLength.ldBD : Laws.EncodedLength.Statement (.ldBD) := rfl
theorem Laws.EncodedLength.ldBE : Laws.EncodedLength.Statement (.ldBE) := rfl
theorem Laws.EncodedLength.ldBH : Laws.EncodedLength.Statement (.ldBH) := rfl
theorem Laws.EncodedLength.ldBL : Laws.EncodedLength.Statement (.ldBL) := rfl
theorem Laws.EncodedLength.ldBAtHl : Laws.EncodedLength.Statement (.ldBAtHl) := rfl
theorem Laws.EncodedLength.ldBA : Laws.EncodedLength.Statement (.ldBA) := rfl
theorem Laws.EncodedLength.ldCB : Laws.EncodedLength.Statement (.ldCB) := rfl
theorem Laws.EncodedLength.ldCC : Laws.EncodedLength.Statement (.ldCC) := rfl
theorem Laws.EncodedLength.ldCD : Laws.EncodedLength.Statement (.ldCD) := rfl
theorem Laws.EncodedLength.ldCE : Laws.EncodedLength.Statement (.ldCE) := rfl
theorem Laws.EncodedLength.ldCH : Laws.EncodedLength.Statement (.ldCH) := rfl
theorem Laws.EncodedLength.ldCL : Laws.EncodedLength.Statement (.ldCL) := rfl
theorem Laws.EncodedLength.ldCAtHl : Laws.EncodedLength.Statement (.ldCAtHl) := rfl
theorem Laws.EncodedLength.ldCA : Laws.EncodedLength.Statement (.ldCA) := rfl
theorem Laws.EncodedLength.ldDB : Laws.EncodedLength.Statement (.ldDB) := rfl
theorem Laws.EncodedLength.ldDC : Laws.EncodedLength.Statement (.ldDC) := rfl
theorem Laws.EncodedLength.ldDD : Laws.EncodedLength.Statement (.ldDD) := rfl
theorem Laws.EncodedLength.ldDE : Laws.EncodedLength.Statement (.ldDE) := rfl
theorem Laws.EncodedLength.ldDH : Laws.EncodedLength.Statement (.ldDH) := rfl
theorem Laws.EncodedLength.ldDL : Laws.EncodedLength.Statement (.ldDL) := rfl
theorem Laws.EncodedLength.ldDAtHl : Laws.EncodedLength.Statement (.ldDAtHl) := rfl
theorem Laws.EncodedLength.ldDA : Laws.EncodedLength.Statement (.ldDA) := rfl
theorem Laws.EncodedLength.ldEB : Laws.EncodedLength.Statement (.ldEB) := rfl
theorem Laws.EncodedLength.ldEC : Laws.EncodedLength.Statement (.ldEC) := rfl
theorem Laws.EncodedLength.ldED : Laws.EncodedLength.Statement (.ldED) := rfl
theorem Laws.EncodedLength.ldEE : Laws.EncodedLength.Statement (.ldEE) := rfl
theorem Laws.EncodedLength.ldEH : Laws.EncodedLength.Statement (.ldEH) := rfl
theorem Laws.EncodedLength.ldEL : Laws.EncodedLength.Statement (.ldEL) := rfl
theorem Laws.EncodedLength.ldEAtHl : Laws.EncodedLength.Statement (.ldEAtHl) := rfl
theorem Laws.EncodedLength.ldEA : Laws.EncodedLength.Statement (.ldEA) := rfl
theorem Laws.EncodedLength.ldHB : Laws.EncodedLength.Statement (.ldHB) := rfl
theorem Laws.EncodedLength.ldHC : Laws.EncodedLength.Statement (.ldHC) := rfl
theorem Laws.EncodedLength.ldHD : Laws.EncodedLength.Statement (.ldHD) := rfl
theorem Laws.EncodedLength.ldHE : Laws.EncodedLength.Statement (.ldHE) := rfl
theorem Laws.EncodedLength.ldHH : Laws.EncodedLength.Statement (.ldHH) := rfl
theorem Laws.EncodedLength.ldHL : Laws.EncodedLength.Statement (.ldHL) := rfl
theorem Laws.EncodedLength.ldHAtHl : Laws.EncodedLength.Statement (.ldHAtHl) := rfl
theorem Laws.EncodedLength.ldHA : Laws.EncodedLength.Statement (.ldHA) := rfl
theorem Laws.EncodedLength.ldLB : Laws.EncodedLength.Statement (.ldLB) := rfl
theorem Laws.EncodedLength.ldLC : Laws.EncodedLength.Statement (.ldLC) := rfl
theorem Laws.EncodedLength.ldLD : Laws.EncodedLength.Statement (.ldLD) := rfl
theorem Laws.EncodedLength.ldLE : Laws.EncodedLength.Statement (.ldLE) := rfl
theorem Laws.EncodedLength.ldLH : Laws.EncodedLength.Statement (.ldLH) := rfl
theorem Laws.EncodedLength.ldLL : Laws.EncodedLength.Statement (.ldLL) := rfl
theorem Laws.EncodedLength.ldLAtHl : Laws.EncodedLength.Statement (.ldLAtHl) := rfl
theorem Laws.EncodedLength.ldLA : Laws.EncodedLength.Statement (.ldLA) := rfl
theorem Laws.EncodedLength.ldAtHlB : Laws.EncodedLength.Statement (.ldAtHlB) := rfl
theorem Laws.EncodedLength.ldAtHlC : Laws.EncodedLength.Statement (.ldAtHlC) := rfl
theorem Laws.EncodedLength.ldAtHlD : Laws.EncodedLength.Statement (.ldAtHlD) := rfl
theorem Laws.EncodedLength.ldAtHlE : Laws.EncodedLength.Statement (.ldAtHlE) := rfl
theorem Laws.EncodedLength.ldAtHlH : Laws.EncodedLength.Statement (.ldAtHlH) := rfl
theorem Laws.EncodedLength.ldAtHlL : Laws.EncodedLength.Statement (.ldAtHlL) := rfl
theorem Laws.EncodedLength.halt : Laws.EncodedLength.Statement (.halt) := rfl
theorem Laws.EncodedLength.ldAtHlA : Laws.EncodedLength.Statement (.ldAtHlA) := rfl
theorem Laws.EncodedLength.ldAB : Laws.EncodedLength.Statement (.ldAB) := rfl
theorem Laws.EncodedLength.ldAC : Laws.EncodedLength.Statement (.ldAC) := rfl
theorem Laws.EncodedLength.ldAD : Laws.EncodedLength.Statement (.ldAD) := rfl
theorem Laws.EncodedLength.ldAE : Laws.EncodedLength.Statement (.ldAE) := rfl
theorem Laws.EncodedLength.ldAH : Laws.EncodedLength.Statement (.ldAH) := rfl
theorem Laws.EncodedLength.ldAL : Laws.EncodedLength.Statement (.ldAL) := rfl
theorem Laws.EncodedLength.ldAAtHl : Laws.EncodedLength.Statement (.ldAAtHl) := rfl
theorem Laws.EncodedLength.ldAA : Laws.EncodedLength.Statement (.ldAA) := rfl
theorem Laws.EncodedLength.addAB : Laws.EncodedLength.Statement (.addAB) := rfl
theorem Laws.EncodedLength.addAC : Laws.EncodedLength.Statement (.addAC) := rfl
theorem Laws.EncodedLength.addAD : Laws.EncodedLength.Statement (.addAD) := rfl
theorem Laws.EncodedLength.addAE : Laws.EncodedLength.Statement (.addAE) := rfl
theorem Laws.EncodedLength.addAH : Laws.EncodedLength.Statement (.addAH) := rfl
theorem Laws.EncodedLength.addAL : Laws.EncodedLength.Statement (.addAL) := rfl
theorem Laws.EncodedLength.addAAtHl : Laws.EncodedLength.Statement (.addAAtHl) := rfl
theorem Laws.EncodedLength.addAA : Laws.EncodedLength.Statement (.addAA) := rfl
theorem Laws.EncodedLength.adcAB : Laws.EncodedLength.Statement (.adcAB) := rfl
theorem Laws.EncodedLength.adcAC : Laws.EncodedLength.Statement (.adcAC) := rfl
theorem Laws.EncodedLength.adcAD : Laws.EncodedLength.Statement (.adcAD) := rfl
theorem Laws.EncodedLength.adcAE : Laws.EncodedLength.Statement (.adcAE) := rfl
theorem Laws.EncodedLength.adcAH : Laws.EncodedLength.Statement (.adcAH) := rfl
theorem Laws.EncodedLength.adcAL : Laws.EncodedLength.Statement (.adcAL) := rfl
theorem Laws.EncodedLength.adcAAtHl : Laws.EncodedLength.Statement (.adcAAtHl) := rfl
theorem Laws.EncodedLength.adcAA : Laws.EncodedLength.Statement (.adcAA) := rfl
theorem Laws.EncodedLength.subB : Laws.EncodedLength.Statement (.subB) := rfl
theorem Laws.EncodedLength.subC : Laws.EncodedLength.Statement (.subC) := rfl
theorem Laws.EncodedLength.subD : Laws.EncodedLength.Statement (.subD) := rfl
theorem Laws.EncodedLength.subE : Laws.EncodedLength.Statement (.subE) := rfl
theorem Laws.EncodedLength.subH : Laws.EncodedLength.Statement (.subH) := rfl
theorem Laws.EncodedLength.subL : Laws.EncodedLength.Statement (.subL) := rfl
theorem Laws.EncodedLength.subAtHl : Laws.EncodedLength.Statement (.subAtHl) := rfl
theorem Laws.EncodedLength.subA : Laws.EncodedLength.Statement (.subA) := rfl
theorem Laws.EncodedLength.sbcAB : Laws.EncodedLength.Statement (.sbcAB) := rfl
theorem Laws.EncodedLength.sbcAC : Laws.EncodedLength.Statement (.sbcAC) := rfl
theorem Laws.EncodedLength.sbcAD : Laws.EncodedLength.Statement (.sbcAD) := rfl
theorem Laws.EncodedLength.sbcAE : Laws.EncodedLength.Statement (.sbcAE) := rfl
theorem Laws.EncodedLength.sbcAH : Laws.EncodedLength.Statement (.sbcAH) := rfl
theorem Laws.EncodedLength.sbcAL : Laws.EncodedLength.Statement (.sbcAL) := rfl
theorem Laws.EncodedLength.sbcAAtHl : Laws.EncodedLength.Statement (.sbcAAtHl) := rfl
theorem Laws.EncodedLength.sbcAA : Laws.EncodedLength.Statement (.sbcAA) := rfl
theorem Laws.EncodedLength.andB : Laws.EncodedLength.Statement (.andB) := rfl
theorem Laws.EncodedLength.andC : Laws.EncodedLength.Statement (.andC) := rfl
theorem Laws.EncodedLength.andD : Laws.EncodedLength.Statement (.andD) := rfl
theorem Laws.EncodedLength.andE : Laws.EncodedLength.Statement (.andE) := rfl
theorem Laws.EncodedLength.andH : Laws.EncodedLength.Statement (.andH) := rfl
theorem Laws.EncodedLength.andL : Laws.EncodedLength.Statement (.andL) := rfl
theorem Laws.EncodedLength.andAtHl : Laws.EncodedLength.Statement (.andAtHl) := rfl
theorem Laws.EncodedLength.andA : Laws.EncodedLength.Statement (.andA) := rfl
theorem Laws.EncodedLength.xorB : Laws.EncodedLength.Statement (.xorB) := rfl
theorem Laws.EncodedLength.xorC : Laws.EncodedLength.Statement (.xorC) := rfl
theorem Laws.EncodedLength.xorD : Laws.EncodedLength.Statement (.xorD) := rfl
theorem Laws.EncodedLength.xorE : Laws.EncodedLength.Statement (.xorE) := rfl
theorem Laws.EncodedLength.xorH : Laws.EncodedLength.Statement (.xorH) := rfl
theorem Laws.EncodedLength.xorL : Laws.EncodedLength.Statement (.xorL) := rfl
theorem Laws.EncodedLength.xorAtHl : Laws.EncodedLength.Statement (.xorAtHl) := rfl
theorem Laws.EncodedLength.xorA : Laws.EncodedLength.Statement (.xorA) := rfl
theorem Laws.EncodedLength.orB : Laws.EncodedLength.Statement (.orB) := rfl
theorem Laws.EncodedLength.orC : Laws.EncodedLength.Statement (.orC) := rfl
theorem Laws.EncodedLength.orD : Laws.EncodedLength.Statement (.orD) := rfl
theorem Laws.EncodedLength.orE : Laws.EncodedLength.Statement (.orE) := rfl
theorem Laws.EncodedLength.orH : Laws.EncodedLength.Statement (.orH) := rfl
theorem Laws.EncodedLength.orL : Laws.EncodedLength.Statement (.orL) := rfl
theorem Laws.EncodedLength.orAtHl : Laws.EncodedLength.Statement (.orAtHl) := rfl
theorem Laws.EncodedLength.orA : Laws.EncodedLength.Statement (.orA) := rfl
theorem Laws.EncodedLength.cpB : Laws.EncodedLength.Statement (.cpB) := rfl
theorem Laws.EncodedLength.cpC : Laws.EncodedLength.Statement (.cpC) := rfl
theorem Laws.EncodedLength.cpD : Laws.EncodedLength.Statement (.cpD) := rfl
theorem Laws.EncodedLength.cpE : Laws.EncodedLength.Statement (.cpE) := rfl
theorem Laws.EncodedLength.cpH : Laws.EncodedLength.Statement (.cpH) := rfl
theorem Laws.EncodedLength.cpL : Laws.EncodedLength.Statement (.cpL) := rfl
theorem Laws.EncodedLength.cpAtHl : Laws.EncodedLength.Statement (.cpAtHl) := rfl
theorem Laws.EncodedLength.cpA : Laws.EncodedLength.Statement (.cpA) := rfl
theorem Laws.EncodedLength.retNz : Laws.EncodedLength.Statement (.retNz) := rfl
theorem Laws.EncodedLength.popBc : Laws.EncodedLength.Statement (.popBc) := rfl
theorem Laws.EncodedLength.jpNzA16 (nn : Word) : Laws.EncodedLength.Statement (.jpNzA16 nn) := rfl
theorem Laws.EncodedLength.jpA16 (nn : Word) : Laws.EncodedLength.Statement (.jpA16 nn) := rfl
theorem Laws.EncodedLength.callNzA16 (nn : Word) : Laws.EncodedLength.Statement (.callNzA16 nn) := rfl
theorem Laws.EncodedLength.pushBc : Laws.EncodedLength.Statement (.pushBc) := rfl
theorem Laws.EncodedLength.addAD8 (n : Byte) : Laws.EncodedLength.Statement (.addAD8 n) := rfl
theorem Laws.EncodedLength.rst00 : Laws.EncodedLength.Statement (.rst00) := rfl
theorem Laws.EncodedLength.retZ : Laws.EncodedLength.Statement (.retZ) := rfl
theorem Laws.EncodedLength.ret : Laws.EncodedLength.Statement (.ret) := rfl
theorem Laws.EncodedLength.jpZA16 (nn : Word) : Laws.EncodedLength.Statement (.jpZA16 nn) := rfl
theorem Laws.EncodedLength.prefixCb (cbop : Byte) : Laws.EncodedLength.Statement (.prefixCb cbop) := rfl
theorem Laws.EncodedLength.callZA16 (nn : Word) : Laws.EncodedLength.Statement (.callZA16 nn) := rfl
theorem Laws.EncodedLength.callA16 (nn : Word) : Laws.EncodedLength.Statement (.callA16 nn) := rfl
theorem Laws.EncodedLength.adcAD8 (n : Byte) : Laws.EncodedLength.Statement (.adcAD8 n) := rfl
theorem Laws.EncodedLength.rst08 : Laws.EncodedLength.Statement (.rst08) := rfl
theorem Laws.EncodedLength.retNc : Laws.EncodedLength.Statement (.retNc) := rfl
theorem Laws.EncodedLength.popDe : Laws.EncodedLength.Statement (.popDe) := rfl
theorem Laws.EncodedLength.jpNcA16 (nn : Word) : Laws.EncodedLength.Statement (.jpNcA16 nn) := rfl
theorem Laws.EncodedLength.illegalD3 : Laws.EncodedLength.Statement (.illegalD3) := rfl
theorem Laws.EncodedLength.callNcA16 (nn : Word) : Laws.EncodedLength.Statement (.callNcA16 nn) := rfl
theorem Laws.EncodedLength.pushDe : Laws.EncodedLength.Statement (.pushDe) := rfl
theorem Laws.EncodedLength.subD8 (n : Byte) : Laws.EncodedLength.Statement (.subD8 n) := rfl
theorem Laws.EncodedLength.rst10 : Laws.EncodedLength.Statement (.rst10) := rfl
theorem Laws.EncodedLength.retC : Laws.EncodedLength.Statement (.retC) := rfl
theorem Laws.EncodedLength.reti : Laws.EncodedLength.Statement (.reti) := rfl
theorem Laws.EncodedLength.jpCA16 (nn : Word) : Laws.EncodedLength.Statement (.jpCA16 nn) := rfl
theorem Laws.EncodedLength.illegalDB : Laws.EncodedLength.Statement (.illegalDB) := rfl
theorem Laws.EncodedLength.callCA16 (nn : Word) : Laws.EncodedLength.Statement (.callCA16 nn) := rfl
theorem Laws.EncodedLength.illegalDD : Laws.EncodedLength.Statement (.illegalDD) := rfl
theorem Laws.EncodedLength.sbcAD8 (n : Byte) : Laws.EncodedLength.Statement (.sbcAD8 n) := rfl
theorem Laws.EncodedLength.rst18 : Laws.EncodedLength.Statement (.rst18) := rfl
theorem Laws.EncodedLength.ldhAtA8A (n : Byte) : Laws.EncodedLength.Statement (.ldhAtA8A n) := rfl
theorem Laws.EncodedLength.popHl : Laws.EncodedLength.Statement (.popHl) := rfl
theorem Laws.EncodedLength.ldAtCA : Laws.EncodedLength.Statement (.ldAtCA) := rfl
theorem Laws.EncodedLength.illegalE3 : Laws.EncodedLength.Statement (.illegalE3) := rfl
theorem Laws.EncodedLength.illegalE4 : Laws.EncodedLength.Statement (.illegalE4) := rfl
theorem Laws.EncodedLength.pushHl : Laws.EncodedLength.Statement (.pushHl) := rfl
theorem Laws.EncodedLength.andD8 (n : Byte) : Laws.EncodedLength.Statement (.andD8 n) := rfl
theorem Laws.EncodedLength.rst20 : Laws.EncodedLength.Statement (.rst20) := rfl
theorem Laws.EncodedLength.addSpE8 (e : Byte) : Laws.EncodedLength.Statement (.addSpE8 e) := rfl
theorem Laws.EncodedLength.jpHl : Laws.EncodedLength.Statement (.jpHl) := rfl
theorem Laws.EncodedLength.ldAtA16A (nn : Word) : Laws.EncodedLength.Statement (.ldAtA16A nn) := rfl
theorem Laws.EncodedLength.illegalEB : Laws.EncodedLength.Statement (.illegalEB) := rfl
theorem Laws.EncodedLength.illegalEC : Laws.EncodedLength.Statement (.illegalEC) := rfl
theorem Laws.EncodedLength.illegalED : Laws.EncodedLength.Statement (.illegalED) := rfl
theorem Laws.EncodedLength.xorD8 (n : Byte) : Laws.EncodedLength.Statement (.xorD8 n) := rfl
theorem Laws.EncodedLength.rst28 : Laws.EncodedLength.Statement (.rst28) := rfl
theorem Laws.EncodedLength.ldhAAtA8 (n : Byte) : Laws.EncodedLength.Statement (.ldhAAtA8 n) := rfl
theorem Laws.EncodedLength.popAf : Laws.EncodedLength.Statement (.popAf) := rfl
theorem Laws.EncodedLength.ldAAtC : Laws.EncodedLength.Statement (.ldAAtC) := rfl
theorem Laws.EncodedLength.di : Laws.EncodedLength.Statement (.di) := rfl
theorem Laws.EncodedLength.illegalF4 : Laws.EncodedLength.Statement (.illegalF4) := rfl
theorem Laws.EncodedLength.pushAf : Laws.EncodedLength.Statement (.pushAf) := rfl
theorem Laws.EncodedLength.orD8 (n : Byte) : Laws.EncodedLength.Statement (.orD8 n) := rfl
theorem Laws.EncodedLength.rst30 : Laws.EncodedLength.Statement (.rst30) := rfl
theorem Laws.EncodedLength.ldHlSpE8 (e : Byte) : Laws.EncodedLength.Statement (.ldHlSpE8 e) := rfl
theorem Laws.EncodedLength.ldSpHl : Laws.EncodedLength.Statement (.ldSpHl) := rfl
theorem Laws.EncodedLength.ldAAtA16 (nn : Word) : Laws.EncodedLength.Statement (.ldAAtA16 nn) := rfl
theorem Laws.EncodedLength.ei : Laws.EncodedLength.Statement (.ei) := rfl
theorem Laws.EncodedLength.illegalFC : Laws.EncodedLength.Statement (.illegalFC) := rfl
theorem Laws.EncodedLength.illegalFD : Laws.EncodedLength.Statement (.illegalFD) := rfl
theorem Laws.EncodedLength.cpD8 (n : Byte) : Laws.EncodedLength.Statement (.cpD8 n) := rfl
theorem Laws.EncodedLength.rst38 : Laws.EncodedLength.Statement (.rst38) := rfl
theorem Laws.EncodedLength.rlcR (r : Reg8) : Laws.EncodedLength.Statement (.rlcR r) := rfl
theorem Laws.EncodedLength.rlcAtHl : Laws.EncodedLength.Statement (.rlcAtHl) := rfl
theorem Laws.EncodedLength.rrcR (r : Reg8) : Laws.EncodedLength.Statement (.rrcR r) := rfl
theorem Laws.EncodedLength.rrcAtHl : Laws.EncodedLength.Statement (.rrcAtHl) := rfl
theorem Laws.EncodedLength.rlR (r : Reg8) : Laws.EncodedLength.Statement (.rlR r) := rfl
theorem Laws.EncodedLength.rlAtHl : Laws.EncodedLength.Statement (.rlAtHl) := rfl
theorem Laws.EncodedLength.rrR (r : Reg8) : Laws.EncodedLength.Statement (.rrR r) := rfl
theorem Laws.EncodedLength.rrAtHl : Laws.EncodedLength.Statement (.rrAtHl) := rfl
theorem Laws.EncodedLength.slaR (r : Reg8) : Laws.EncodedLength.Statement (.slaR r) := rfl
theorem Laws.EncodedLength.slaAtHl : Laws.EncodedLength.Statement (.slaAtHl) := rfl
theorem Laws.EncodedLength.sraR (r : Reg8) : Laws.EncodedLength.Statement (.sraR r) := rfl
theorem Laws.EncodedLength.sraAtHl : Laws.EncodedLength.Statement (.sraAtHl) := rfl
theorem Laws.EncodedLength.swapR (r : Reg8) : Laws.EncodedLength.Statement (.swapR r) := rfl
theorem Laws.EncodedLength.swapAtHl : Laws.EncodedLength.Statement (.swapAtHl) := rfl
theorem Laws.EncodedLength.srlR (r : Reg8) : Laws.EncodedLength.Statement (.srlR r) := rfl
theorem Laws.EncodedLength.srlAtHl : Laws.EncodedLength.Statement (.srlAtHl) := rfl
theorem Laws.EncodedLength.bitR (b : BitVec 3) (r : Reg8) : Laws.EncodedLength.Statement (.bitR b r) := rfl
theorem Laws.EncodedLength.bitAtHl (b : BitVec 3) : Laws.EncodedLength.Statement (.bitAtHl b) := rfl
theorem Laws.EncodedLength.resR (b : BitVec 3) (r : Reg8) : Laws.EncodedLength.Statement (.resR b r) := rfl
theorem Laws.EncodedLength.resAtHl (b : BitVec 3) : Laws.EncodedLength.Statement (.resAtHl b) := rfl
theorem Laws.EncodedLength.setR (b : BitVec 3) (r : Reg8) : Laws.EncodedLength.Statement (.setR b r) := rfl
theorem Laws.EncodedLength.setAtHl (b : BitVec 3) : Laws.EncodedLength.Statement (.setAtHl b) := rfl

end Sys2Proof
end

