-- ==== Sys2Proof/Laws/Rows.lean ====
section
/-! SUPPORT. What exec does with the rows of one rule, in one equation over their operands: the table's rows share their
meaning as the spec's rule says (30_encoding.md R84 to R89). -/

namespace Sys2Proof.Machine

theorem exec_ldRR (dst src : Reg8) (s : State) : exec (Row.ldRR dst src) s = .next (s.loadReg dst src) := by
  cases dst <;> cases src <;> rfl

theorem exec_ldRD8 (dst : Reg8) (n : Byte) (s : State) : exec (Row.ldRD8 dst n) s = .next (s.setReg8 dst n) := by
  cases dst <;> rfl

theorem exec_ldRAtHl (dst : Reg8) (s : State) : exec (Row.ldRAtHl dst) s = .next (s.loadFrom dst s.hl) := by
  cases dst <;> rfl

theorem exec_ldAtHlR (src : Reg8) (s : State) : exec (Row.ldAtHlR src) s = .next (s.memWrite s.hl (s.reg8 src)) := by
  cases src <;> rfl

theorem exec_inc8 (z : Loc8) (s : State) : exec (Row.inc8 z) s = .next (s.inc8 z) := by
  rcases z with r | _
  · cases r <;> rfl
  · rfl

theorem exec_dec8 (z : Loc8) (s : State) : exec (Row.dec8 z) s = .next (s.dec8 z) := by
  rcases z with r | _
  · cases r <;> rfl
  · rfl

/-- What an 8-bit ALU operation does with its operand (41_alu8.md R112 to R135). -/
def State.aluOp (s : State) (op : AluOp) (src : Src8) : State :=
  match op with
  | .add => s.addToA src false
  | .adc => s.addToA src s.cf
  | .sub => s.subFromA src false
  | .sbc => s.subFromA src s.cf
  | .and => s.andA src
  | .xor => s.xorA src
  | .or => s.orA src
  | .cp => s.compareA src

theorem exec_alu (op : AluOp) (src : Src8) (s : State) : exec (Row.alu op src) s = .next (s.aluOp op src) := by
  rcases src with r | _ | n
  · cases op <;> cases r <;> rfl
  · cases op <;> rfl
  · cases op <;> rfl

theorem exec_ldPairD16 (p : Pair) (nn : Word) (s : State) :
    exec (Row.ldPairD16 p nn) s = .next (s.setPair p nn) := by
  cases p <;> rfl

theorem exec_incPair (p : Pair) (s : State) : exec (Row.incPair p) s = .next (s.incPair p) := by
  cases p <;> rfl

theorem exec_decPair (p : Pair) (s : State) : exec (Row.decPair p) s = .next (s.decPair p) := by
  cases p <;> rfl

theorem exec_addHlPair (p : Pair) (s : State) : exec (Row.addHlPair p) s = .next (s.addHl p) := by
  cases p <;> rfl

theorem exec_push (p : StackPair) (s : State) : exec (Row.push p) s = .next (s.pushPair p) := by
  cases p <;> rfl

theorem exec_pop (p : StackPair) (s : State) : exec (Row.pop p) s = .next (s.popPair p) := by
  cases p <;> rfl

theorem exec_jrCc (cc : Cond) (e : Byte) (s : State) :
    exec (Row.jrCc cc e) s = .next (s.whenCond cc (s.jumpTo (s.pc + sext16 e))) := by
  cases cc <;> rfl

theorem exec_jpCc (cc : Cond) (nn : Word) (s : State) :
    exec (Row.jpCc cc nn) s = .next (s.whenCond cc (s.jumpTo nn)) := by
  cases cc <;> rfl

theorem exec_callCc (cc : Cond) (nn : Word) (s : State) :
    exec (Row.callCc cc nn) s = .next (s.whenCond cc (s.callTo nn)) := by
  cases cc <;> rfl

theorem exec_retCc (cc : Cond) (s : State) : exec (Row.retCc cc) s = .next (s.returnWhen cc) := by
  cases cc <;> rfl

theorem exec_rot (op : RotOp) (z : Loc8) (s : State) : exec (Row.rot op z) s = .next (s.rotateLoc op z) := by
  cases op <;> cases z <;> rfl

theorem exec_bit (b : BitVec 3) (z : Loc8) (s : State) : exec (Row.bit b z) s = .next (s.testBit b z) := by
  cases z <;> rfl

theorem exec_res (b : BitVec 3) (z : Loc8) (s : State) : exec (Row.res b z) s = .next (s.clearBit b z) := by
  cases z <;> rfl

theorem exec_set (b : BitVec 3) (z : Loc8) (s : State) : exec (Row.set b z) s = .next (s.putBit b z) := by
  cases z <;> rfl

theorem exec_rst {i : Instr} {target : Word} (hi : (i, target) ∈ Row.rst) (s : State) :
    exec i s = .next (s.callTo target) := by
  have every : ∀ row ∈ Row.rst, exec row.1 s = .next (s.callTo row.2) := by
    simp only [Row.rst, List.forall_mem_cons]
    and_intros <;> first | rfl | simp
  exact every _ hi

theorem exec_illegal {i : Instr} {op : Byte} (hi : (i, op) ∈ Row.illegal) (s : State) :
    exec i s = .next (s.raiseIllegal op) := by
  have every : ∀ row ∈ Row.illegal, exec row.1 s = .next (s.raiseIllegal row.2) := by
    simp only [Row.illegal, List.forall_mem_cons]
    and_intros <;> first | rfl | simp
  exact every _ hi

/-- A CB byte selects a row of one of the four groups (30_encoding.md R83). -/
theorem decodeCb_cases (cbop : Byte) :
    (∃ op z, decodeCb cbop = Row.rot op z) ∨ (∃ b z, decodeCb cbop = Row.bit b z) ∨
    (∃ b z, decodeCb cbop = Row.res b z) ∨ (∃ b z, decodeCb cbop = Row.set b z) := by
  unfold decodeCb
  split
  · exact .inl ⟨_, _, rfl⟩
  · exact .inr (.inl ⟨_, _, rfl⟩)
  · exact .inr (.inr (.inl ⟨_, _, rfl⟩))
  · exact .inr (.inr (.inr ⟨_, _, rfl⟩))

/-- The prefix's meaning is that of the instruction its second byte selects (48_system.md R283). -/
theorem exec_prefixCb (cbop : Byte) (s : State) : exec (.prefixCb cbop) s = exec (decodeCb cbop) s := by
  change execPrefixCb cbop s = _
  unfold execPrefixCb decodeCb
  generalize (fieldX cbop).toNat = x
  generalize rotOfIndex (fieldY cbop) = op
  generalize locOfIndex (fieldZ cbop) = z
  rcases x with _ | _ | _ | x
  · cases op <;> cases z <;> rfl
  · cases z <;> rfl
  · cases z <;> rfl
  · cases z <;> rfl

end Sys2Proof.Machine
end

