-- ==== Sys2Proof/Tests/Slice0.lean ====
section
/-! SUPPORT. The model's own tests: what WellFormed refuses, words written out from the spec's encodings, single steps
from the spec's vectors (95_test_vectors.md), and for every statement with hypotheses a state that meets them. -/

namespace Sys2Proof.Tests

open Sys2Proof Sys2Proof.Machine Sys2Proof.Claim

/-! ### WellFormed -/

/-- The one ill-formed kind of term: a prefix without its instruction (48_system.md R283; log entry 6). -/
theorem test_prefix_is_ill_formed : (Instr.prefixCb 0x00).wellFormed = false := by decide

theorem test_every_prefix_byte_is_ill_formed : ∀ cbop : Byte, (Instr.prefixCb cbop).wellFormed = false := by decide

theorem test_decoded_prefix_is_well_formed : (decodeCb 0x37).wellFormed = true := by decide

/-! ### Decode: words written out from the encodings of 30_encoding.md R95 and R96 -/

/-- The decoder's answer, without the name of its rejection. -/
def decoded (bytes : List Byte) : Option (Instr × List Byte) := (decode bytes).toOption

/-- 10yyyzzz, y = 001 (ADC), z = 110 ((HL)): R88. -/
theorem test_decode_alu_register : decoded [0b10001110] = some (.adcAAtHl, []) := by decide

/-- 11yyy110, y = 101 (XOR), d8: R88. -/
theorem test_decode_alu_immediate : decoded [0b11101110, 0x0F] = some (.xorD8 0x0F, []) := by decide

/-- 00yyy100, y = 110: R84. -/
theorem test_decode_inc : decoded [0b00110100] = some (.incAtHl, []) := by decide

/-- 00pp1001, pp = 01: R85. -/
theorem test_decode_add_hl : decoded [0b00011001] = some (.addHlDe, []) := by decide

/-- 00pp0011, pp = 11: R85. -/
theorem test_decode_inc_pair : decoded [0b00110011] = some (.incSp, []) := by decide

/-- 0xE8 e8: R95. -/
theorem test_decode_add_sp : decoded [0xE8, 0x80] = some (.addSpE8 0x80, []) := by decide

/-- 000yy111, yy = 01: R95. -/
theorem test_decode_accumulator_rotate : decoded [0b00001111] = some (.rrca, []) := by decide

/-- 00yyyzzz, y = 010 (RL), z = 110: R89, R96. -/
theorem test_decode_cb_rotate : decoded [0xCB, 0b00010110] = some (.rlAtHl, []) := by decide

/-- 00yyyzzz, y = 110 (SWAP), z = 000: R89, R96. -/
theorem test_decode_cb_swap : decoded [0xCB, 0b00110000] = some (.swapR .b, []) := by decide

/-- 01bbbzzz, b = 0, z = 111: R96. -/
theorem test_decode_cb_bit : decoded [0xCB, 0b01000111] = some (.bitR 0 .a, []) := by decide

/-- 10bbbzzz, b = 7, z = 110: R96. -/
theorem test_decode_cb_res : decoded [0xCB, 0b10111110] = some (.resAtHl 7, []) := by decide

/-- 11bbbzzz, b = 5, z = 101: R96. -/
theorem test_decode_cb_set : decoded [0xCB, 0b11101101] = some (.setR 5 .l, []) := by decide

/-- 01yyyzzz, y = 100 (H), z = 001 (C): R84. -/
theorem test_decode_load_register : decoded [0b01100001] = some (.ldHC, []) := by decide

/-- 00yyy110 d8, y = 101 (L): R84. -/
theorem test_decode_load_immediate : decoded [0b00101110, 0x7F] = some (.ldLD8 0x7F, []) := by decide

/-- 00pp0001 d16, pp = 11: R85, R90. -/
theorem test_decode_load_pair_low_byte_first : decoded [0b00110001, 0x00, 0xD0] = some (.ldSpD16 0xD000, []) := by decide

/-- 0xE0 a8: R95. -/
theorem test_decode_load_high_page : decoded [0xE0, 0x80] = some (.ldhAtA8A 0x80, []) := by decide

/-- 0x08 a16: R95. -/
theorem test_decode_store_sp : decoded [0x08, 0x00, 0xC1] = some (.ldAtA16Sp 0xC100, []) := by decide

/-- 0x76: R98. -/
theorem test_decode_halt_is_no_load : decoded [0b01110110] = some (.halt, []) := by decide

/-- 11pp0101, pp = 11: R86. -/
theorem test_decode_push_af : decoded [0b11110101] = some (.pushAf, []) := by decide

/-- 11pp0001, pp = 01: R86. -/
theorem test_decode_pop_de : decoded [0b11010001] = some (.popDe, []) := by decide

/-- 001cc000 e8, cc = 11: R87. -/
theorem test_decode_jr_cc : decoded [0b00111000, 0xFB] = some (.jrCE8 0xFB, []) := by decide

/-- 110cc100 a16, cc = 10: R87. -/
theorem test_decode_call_cc : decoded [0b11010100, 0x34, 0x12] = some (.callNcA16 0x1234, []) := by decide

/-- 110cc000, cc = 01: R87. -/
theorem test_decode_ret_cc_leaves_the_rest : decoded [0b11001000, 0x55] = some (.retZ, [0x55]) := by decide

/-- 11yyy111, y = 101: R263. -/
theorem test_decode_rst : decoded [0b11101111] = some (.rst28, []) := by decide

/-- R102, D9. -/
theorem test_decode_stop_takes_a_second_byte : decoded [0x10, 0x00] = some (.stop 0x00, []) := by decide

/-- R101. -/
theorem test_decode_illegal : decoded [0xFC] = some (.illegalFC, []) := by decide

/-! ### Every row of spec/opcode_table.json by its own word: operand bytes 0x34, 0x12 -/

/-- The instruction at the front of each of the byte lists. -/
def decodedAll (words : List (List Byte)) : List (Option Instr) := words.map fun bytes => (decoded bytes).map Prod.fst

theorem test_words_0x : decodedAll
     [[0x00], [0x01, 0x34, 0x12], [0x02], [0x03], [0x04], [0x05], [0x06, 0x34], [0x07], [0x08, 0x34, 0x12], [0x09],
      [0x0A], [0x0B], [0x0C], [0x0D], [0x0E, 0x34], [0x0F]] =
     [some .nop, some (.ldBcD16 0x1234), some .ldAtBcA, some .incBc, some .incB, some .decB, some (.ldBD8 0x34),
      some .rlca, some (.ldAtA16Sp 0x1234), some .addHlBc, some .ldAAtBc, some .decBc, some .incC, some .decC, some
      (.ldCD8 0x34), some .rrca] := by decide

theorem test_words_1x : decodedAll
     [[0x10, 0x34], [0x11, 0x34, 0x12], [0x12], [0x13], [0x14], [0x15], [0x16, 0x34], [0x17], [0x18, 0x34], [0x19],
      [0x1A], [0x1B], [0x1C], [0x1D], [0x1E, 0x34], [0x1F]] =
     [some (.stop 0x34), some (.ldDeD16 0x1234), some .ldAtDeA, some .incDe, some .incD, some .decD, some (.ldDD8
      0x34), some .rla, some (.jrE8 0x34), some .addHlDe, some .ldAAtDe, some .decDe, some .incE, some .decE, some
      (.ldED8 0x34), some .rra] := by decide

theorem test_words_2x : decodedAll
     [[0x20, 0x34], [0x21, 0x34, 0x12], [0x22], [0x23], [0x24], [0x25], [0x26, 0x34], [0x27], [0x28, 0x34], [0x29],
      [0x2A], [0x2B], [0x2C], [0x2D], [0x2E, 0x34], [0x2F]] =
     [some (.jrNzE8 0x34), some (.ldHlD16 0x1234), some .ldAtHlIncA, some .incHl, some .incH, some .decH, some
      (.ldHD8 0x34), some .daa, some (.jrZE8 0x34), some .addHlHl, some .ldAAtHlInc, some .decHl, some .incL, some
      .decL, some (.ldLD8 0x34), some .cpl] := by decide

theorem test_words_3x : decodedAll
     [[0x30, 0x34], [0x31, 0x34, 0x12], [0x32], [0x33], [0x34], [0x35], [0x36, 0x34], [0x37], [0x38, 0x34], [0x39],
      [0x3A], [0x3B], [0x3C], [0x3D], [0x3E, 0x34], [0x3F]] =
     [some (.jrNcE8 0x34), some (.ldSpD16 0x1234), some .ldAtHlDecA, some .incSp, some .incAtHl, some .decAtHl, some
      (.ldAtHlD8 0x34), some .scf, some (.jrCE8 0x34), some .addHlSp, some .ldAAtHlDec, some .decSp, some .incA,
      some .decA, some (.ldAD8 0x34), some .ccf] := by decide

theorem test_words_4x : decodedAll
     [[0x40], [0x41], [0x42], [0x43], [0x44], [0x45], [0x46], [0x47], [0x48], [0x49], [0x4A], [0x4B], [0x4C],
      [0x4D], [0x4E], [0x4F]] =
     [some .ldBB, some .ldBC, some .ldBD, some .ldBE, some .ldBH, some .ldBL, some .ldBAtHl, some .ldBA, some .ldCB,
      some .ldCC, some .ldCD, some .ldCE, some .ldCH, some .ldCL, some .ldCAtHl, some .ldCA] := by decide

theorem test_words_5x : decodedAll
     [[0x50], [0x51], [0x52], [0x53], [0x54], [0x55], [0x56], [0x57], [0x58], [0x59], [0x5A], [0x5B], [0x5C],
      [0x5D], [0x5E], [0x5F]] =
     [some .ldDB, some .ldDC, some .ldDD, some .ldDE, some .ldDH, some .ldDL, some .ldDAtHl, some .ldDA, some .ldEB,
      some .ldEC, some .ldED, some .ldEE, some .ldEH, some .ldEL, some .ldEAtHl, some .ldEA] := by decide

theorem test_words_6x : decodedAll
     [[0x60], [0x61], [0x62], [0x63], [0x64], [0x65], [0x66], [0x67], [0x68], [0x69], [0x6A], [0x6B], [0x6C],
      [0x6D], [0x6E], [0x6F]] =
     [some .ldHB, some .ldHC, some .ldHD, some .ldHE, some .ldHH, some .ldHL, some .ldHAtHl, some .ldHA, some .ldLB,
      some .ldLC, some .ldLD, some .ldLE, some .ldLH, some .ldLL, some .ldLAtHl, some .ldLA] := by decide

theorem test_words_7x : decodedAll
     [[0x70], [0x71], [0x72], [0x73], [0x74], [0x75], [0x76], [0x77], [0x78], [0x79], [0x7A], [0x7B], [0x7C],
      [0x7D], [0x7E], [0x7F]] =
     [some .ldAtHlB, some .ldAtHlC, some .ldAtHlD, some .ldAtHlE, some .ldAtHlH, some .ldAtHlL, some .halt, some
      .ldAtHlA, some .ldAB, some .ldAC, some .ldAD, some .ldAE, some .ldAH, some .ldAL, some .ldAAtHl, some .ldAA] := by decide

theorem test_words_8x : decodedAll
     [[0x80], [0x81], [0x82], [0x83], [0x84], [0x85], [0x86], [0x87], [0x88], [0x89], [0x8A], [0x8B], [0x8C],
      [0x8D], [0x8E], [0x8F]] =
     [some .addAB, some .addAC, some .addAD, some .addAE, some .addAH, some .addAL, some .addAAtHl, some .addAA,
      some .adcAB, some .adcAC, some .adcAD, some .adcAE, some .adcAH, some .adcAL, some .adcAAtHl, some .adcAA] := by decide

theorem test_words_9x : decodedAll
     [[0x90], [0x91], [0x92], [0x93], [0x94], [0x95], [0x96], [0x97], [0x98], [0x99], [0x9A], [0x9B], [0x9C],
      [0x9D], [0x9E], [0x9F]] =
     [some .subB, some .subC, some .subD, some .subE, some .subH, some .subL, some .subAtHl, some .subA, some
      .sbcAB, some .sbcAC, some .sbcAD, some .sbcAE, some .sbcAH, some .sbcAL, some .sbcAAtHl, some .sbcAA] := by decide

theorem test_words_Ax : decodedAll
     [[0xA0], [0xA1], [0xA2], [0xA3], [0xA4], [0xA5], [0xA6], [0xA7], [0xA8], [0xA9], [0xAA], [0xAB], [0xAC],
      [0xAD], [0xAE], [0xAF]] =
     [some .andB, some .andC, some .andD, some .andE, some .andH, some .andL, some .andAtHl, some .andA, some .xorB,
      some .xorC, some .xorD, some .xorE, some .xorH, some .xorL, some .xorAtHl, some .xorA] := by decide

theorem test_words_Bx : decodedAll
     [[0xB0], [0xB1], [0xB2], [0xB3], [0xB4], [0xB5], [0xB6], [0xB7], [0xB8], [0xB9], [0xBA], [0xBB], [0xBC],
      [0xBD], [0xBE], [0xBF]] =
     [some .orB, some .orC, some .orD, some .orE, some .orH, some .orL, some .orAtHl, some .orA, some .cpB, some
      .cpC, some .cpD, some .cpE, some .cpH, some .cpL, some .cpAtHl, some .cpA] := by decide

theorem test_words_Cx : decodedAll
     [[0xC0], [0xC1], [0xC2, 0x34, 0x12], [0xC3, 0x34, 0x12], [0xC4, 0x34, 0x12], [0xC5], [0xC6, 0x34], [0xC7],
      [0xC8], [0xC9], [0xCA, 0x34, 0x12], [0xCC, 0x34, 0x12], [0xCD, 0x34, 0x12], [0xCE, 0x34], [0xCF]] =
     [some .retNz, some .popBc, some (.jpNzA16 0x1234), some (.jpA16 0x1234), some (.callNzA16 0x1234), some
      .pushBc, some (.addAD8 0x34), some .rst00, some .retZ, some .ret, some (.jpZA16 0x1234), some (.callZA16
      0x1234), some (.callA16 0x1234), some (.adcAD8 0x34), some .rst08] := by decide

theorem test_words_Dx : decodedAll
     [[0xD0], [0xD1], [0xD2, 0x34, 0x12], [0xD3], [0xD4, 0x34, 0x12], [0xD5], [0xD6, 0x34], [0xD7], [0xD8], [0xD9],
      [0xDA, 0x34, 0x12], [0xDB], [0xDC, 0x34, 0x12], [0xDD], [0xDE, 0x34], [0xDF]] =
     [some .retNc, some .popDe, some (.jpNcA16 0x1234), some .illegalD3, some (.callNcA16 0x1234), some .pushDe,
      some (.subD8 0x34), some .rst10, some .retC, some .reti, some (.jpCA16 0x1234), some .illegalDB, some
      (.callCA16 0x1234), some .illegalDD, some (.sbcAD8 0x34), some .rst18] := by decide

theorem test_words_Ex : decodedAll
     [[0xE0, 0x34], [0xE1], [0xE2], [0xE3], [0xE4], [0xE5], [0xE6, 0x34], [0xE7], [0xE8, 0x34], [0xE9], [0xEA, 0x34,
      0x12], [0xEB], [0xEC], [0xED], [0xEE, 0x34], [0xEF]] =
     [some (.ldhAtA8A 0x34), some .popHl, some .ldAtCA, some .illegalE3, some .illegalE4, some .pushHl, some (.andD8
      0x34), some .rst20, some (.addSpE8 0x34), some .jpHl, some (.ldAtA16A 0x1234), some .illegalEB, some
      .illegalEC, some .illegalED, some (.xorD8 0x34), some .rst28] := by decide

theorem test_words_Fx : decodedAll
     [[0xF0, 0x34], [0xF1], [0xF2], [0xF3], [0xF4], [0xF5], [0xF6, 0x34], [0xF7], [0xF8, 0x34], [0xF9], [0xFA, 0x34,
      0x12], [0xFB], [0xFC], [0xFD], [0xFE, 0x34], [0xFF]] =
     [some (.ldhAAtA8 0x34), some .popAf, some .ldAAtC, some .di, some .illegalF4, some .pushAf, some (.orD8 0x34),
      some .rst30, some (.ldHlSpE8 0x34), some .ldSpHl, some (.ldAAtA16 0x1234), some .ei, some .illegalFC, some
      .illegalFD, some (.cpD8 0x34), some .rst38] := by decide

/-- The CB rows, with the register field 011 (E) and the bit field 101. -/
theorem test_words_cb : decodedAll
     [[0xCB, 0x03], [0xCB, 0x06], [0xCB, 0x0B], [0xCB, 0x0E], [0xCB, 0x13], [0xCB, 0x16], [0xCB, 0x1B], [0xCB,
      0x1E], [0xCB, 0x23], [0xCB, 0x26], [0xCB, 0x2B], [0xCB, 0x2E], [0xCB, 0x33], [0xCB, 0x36], [0xCB, 0x3B],
      [0xCB, 0x3E], [0xCB, 0x6B], [0xCB, 0x6E], [0xCB, 0xAB], [0xCB, 0xAE], [0xCB, 0xEB], [0xCB, 0xEE]] =
     [some (.rlcR .e), some .rlcAtHl, some (.rrcR .e), some .rrcAtHl, some (.rlR .e), some .rlAtHl, some (.rrR .e),
      some .rrAtHl, some (.slaR .e), some .slaAtHl, some (.sraR .e), some .sraAtHl, some (.swapR .e), some
      .swapAtHl, some (.srlR .e), some .srlAtHl, some (.bitR 5 .e), some (.bitAtHl 5), some (.resR 5 .e), some
      (.resAtHl 5), some (.setR 5 .e), some (.setAtHl 5)] := by decide

theorem test_decode_truncated : decoded [0xC3, 0x50] = none := by decide

theorem test_decode_empty : decoded [] = none := by decide

/-- The table's number of a row with an operand byte: the operand's bits are 0. -/
theorem test_table_word : decodeTableWord 8 0x3E = some (.ldAD8 0x00) := by decide

/-- The table's number of a CB row: the prefix in bits 15..8 (log entry 7). -/
theorem test_table_word_cb : decodeTableWord 16 0xCB37 = some (.swapR .a) := by decide

/-! ### The placing of an instruction -/

/-- The state of an outcome that goes on, else the state given. -/
def nextOr (s : State) : Result → State
  | .next t => t
  | .fault _ => s
  | .refused _ => s

theorem test_withFetchWord_runs :
    (let t := nextOr State.reset (step (State.reset.withFetchWord 8 0x3C)); (t.a, t.pc)) = (0x01, 0x0101) := by decide

theorem test_withFetchWord_runs_cb :
    (let t := nextOr State.reset (step (State.reset.withFetchWord 16 0xCBFF)); (t.a, t.pc)) = (0x80, 0x0102) := by decide

theorem test_withFetchWord_clears_a_window :
    (let s := { State.reset with bus := { State.reset.bus with regions := [⟨0x0000, 0x7FFF, .external⟩] } }
     (nextOr s (step (s.withFetchWord 8 0x3C))).a) = 0x01 := by decide

/-! ### Single steps, from the vectors of 95_test_vectors.md section 2 -/

/-- A state with bytes placed at PC and other bytes placed where they are listed. -/
def placed (s : State) (bytes : List Byte) (cells : List (Word × Byte)) : State :=
  cells.foldl (fun t cell => t.placeByte cell.1 cell.2) (s.placeBytes s.pc bytes)

/-- The state after one step of it. -/
def stepOf (s : State) (bytes : List Byte) (cells : List (Word × Byte)) : State :=
  nextOr s (step (placed s bytes cells))

/-! #### 8-bit arithmetic and logic (41_alu8.md) (95_test_vectors.md section 2.1) -/

theorem test_R112_80 :
    (let t := stepOf { State.reset with a := 0x3A, b := 0xC6 } [0x80] []
     (t.a, t.f, t.pc, t.cycleCount)) = (0x00, 0xB0, 0x0101, 4) := by decide

theorem test_R113_86 :
    (let t := stepOf { State.reset with a := 0x01, h := 0xC0, l := 0x00 } [0x86] [(0xC000, 0xFF)]
     (t.a, t.f, t.pc, t.cycleCount)) = (0x00, 0xB0, 0x0101, 8) := by decide

theorem test_R114_C601 :
    (let t := stepOf { State.reset with a := 0x0F } [0xC6, 0x01] []
     (t.a, t.f, t.pc, t.cycleCount)) = (0x10, 0x20, 0x0102, 8) := by decide

theorem test_R115_89 :
    (let t := stepOf { State.reset with a := 0xE1, c := 0x1E, f := 0x10 } [0x89] []
     (t.a, t.f, t.pc, t.cycleCount)) = (0x00, 0xB0, 0x0101, 4) := by decide

theorem test_R116_8E :
    (let t := stepOf { State.reset with a := 0x00, h := 0xC0, l := 0x00, f := 0x10 } [0x8E] [(0xC000, 0x0F)]
     (t.a, t.f, t.pc, t.cycleCount)) = (0x10, 0x20, 0x0101, 8) := by decide

theorem test_R117_CE00 :
    (let t := stepOf { State.reset with a := 0x0F, f := 0x10 } [0xCE, 0x00] []
     (t.a, t.f, t.pc, t.cycleCount)) = (0x10, 0x20, 0x0102, 8) := by decide

theorem test_R118_90 :
    (let t := stepOf { State.reset with a := 0x3E, b := 0x3E } [0x90] []
     (t.a, t.f, t.pc, t.cycleCount)) = (0x00, 0xC0, 0x0101, 4) := by decide

theorem test_R119_96 :
    (let t := stepOf { State.reset with a := 0x3E, h := 0xC0, l := 0x00 } [0x96] [(0xC000, 0x40)]
     (t.a, t.f, t.pc, t.cycleCount)) = (0xFE, 0x50, 0x0101, 8) := by decide

theorem test_R120_D60F :
    (let t := stepOf { State.reset with a := 0x3E } [0xD6, 0x0F] []
     (t.a, t.f, t.pc, t.cycleCount)) = (0x2F, 0x60, 0x0102, 8) := by decide

theorem test_R121_9F :
    (let t := stepOf { State.reset with a := 0x55, f := 0x10 } [0x9F] []
     (t.a, t.f, t.pc, t.cycleCount)) = (0xFF, 0x70, 0x0101, 4) := by decide

theorem test_R122_9E :
    (let t := stepOf { State.reset with a := 0x3B, h := 0xC0, l := 0x00, f := 0x10 } [0x9E] [(0xC000, 0x4F)]
     (t.a, t.f, t.pc, t.cycleCount)) = (0xEB, 0x70, 0x0101, 8) := by decide

theorem test_R123_DE3A :
    (let t := stepOf { State.reset with a := 0x3B, f := 0x10 } [0xDE, 0x3A] []
     (t.a, t.f, t.pc, t.cycleCount)) = (0x00, 0xC0, 0x0102, 8) := by decide

theorem test_R124_A5 :
    (let t := stepOf { State.reset with a := 0x5A, l := 0x3F, f := 0x10 } [0xA5] []
     (t.a, t.f, t.pc, t.cycleCount)) = (0x1A, 0x20, 0x0101, 4) := by decide

theorem test_R125_A6 :
    (let t := stepOf { State.reset with a := 0x5A, h := 0xC0, l := 0x00 } [0xA6] [(0xC000, 0x00)]
     (t.a, t.f, t.pc, t.cycleCount)) = (0x00, 0xA0, 0x0101, 8) := by decide

theorem test_R126_E60F :
    (let t := stepOf { State.reset with a := 0xF0 } [0xE6, 0x0F] []
     (t.a, t.f, t.pc, t.cycleCount)) = (0x00, 0xA0, 0x0102, 8) := by decide

theorem test_R127_AF :
    (let t := stepOf { State.reset with a := 0xFF, f := 0x70 } [0xAF] []
     (t.a, t.f, t.pc, t.cycleCount)) = (0x00, 0x80, 0x0101, 4) := by decide

theorem test_R128_AE :
    (let t := stepOf { State.reset with a := 0xFF, h := 0xC0, l := 0x00 } [0xAE] [(0xC000, 0x8A)]
     (t.a, t.f, t.pc, t.cycleCount)) = (0x75, 0x00, 0x0101, 8) := by decide

theorem test_R129_EE0F :
    (let t := stepOf { State.reset with a := 0xFF } [0xEE, 0x0F] []
     (t.a, t.f, t.pc, t.cycleCount)) = (0xF0, 0x00, 0x0102, 8) := by decide

theorem test_R130_B7 :
    (let t := stepOf { State.reset with a := 0x00, f := 0x70 } [0xB7] []
     (t.f, t.pc, t.cycleCount)) = (0x80, 0x0101, 4) := by decide

theorem test_R131_B6 :
    (let t := stepOf { State.reset with a := 0x5A, h := 0xC0, l := 0x00 } [0xB6] [(0xC000, 0x0F)]
     (t.a, t.f, t.pc, t.cycleCount)) = (0x5F, 0x00, 0x0101, 8) := by decide

theorem test_R132_F603 :
    (let t := stepOf { State.reset with a := 0x5A } [0xF6, 0x03] []
     (t.a, t.f, t.pc, t.cycleCount)) = (0x5B, 0x00, 0x0102, 8) := by decide

theorem test_R133_B8 :
    (let t := stepOf { State.reset with a := 0x3C, b := 0x2F } [0xB8] []
     (t.f, t.pc, t.cycleCount)) = (0x60, 0x0101, 4) := by decide

theorem test_R134_BE :
    (let t := stepOf { State.reset with a := 0x3C, h := 0xC0, l := 0x00 } [0xBE] [(0xC000, 0x40)]
     (t.f, t.pc, t.cycleCount)) = (0x50, 0x0101, 8) := by decide

theorem test_R135_FE3C :
    (let t := stepOf { State.reset with a := 0x3C } [0xFE, 0x3C] []
     (t.f, t.pc, t.cycleCount)) = (0xC0, 0x0102, 8) := by decide

theorem test_R136_04 :
    (let t := stepOf { State.reset with b := 0xFF } [0x04] []
     (t.b, t.f, t.pc, t.cycleCount)) = (0x00, 0xA0, 0x0101, 4) := by decide

theorem test_R137_34 :
    (let t := stepOf { State.reset with h := 0xC0, l := 0x00, f := 0x50 } [0x34] [(0xC000, 0xFF)]
     (t.f, t.pc, t.byteAt 0xC000, t.cycleCount)) = (0xB0, 0x0101, 0x00, 12) := by decide

theorem test_R138_0D :
    (let t := stepOf { State.reset with c := 0x00, f := 0x10 } [0x0D] []
     (t.c, t.f, t.pc, t.cycleCount)) = (0xFF, 0x70, 0x0101, 4) := by decide

theorem test_R139_35 :
    (let t := stepOf { State.reset with h := 0xC0, l := 0x00 } [0x35] [(0xC000, 0x10)]
     (t.f, t.pc, t.byteAt 0xC000, t.cycleCount)) = (0x60, 0x0101, 0x0F, 12) := by decide

theorem test_R140_27 :
    (let t := stepOf { State.reset with a := 0x9A } [0x27] []
     (t.a, t.f, t.pc, t.cycleCount)) = (0x00, 0x90, 0x0101, 4) := by decide

theorem test_R140_27b :
    (let t := stepOf { State.reset with a := 0x00, f := 0x70 } [0x27] []
     (t.a, t.f, t.pc, t.cycleCount)) = (0x9A, 0x50, 0x0101, 4) := by decide

theorem test_R141_2F :
    (let t := stepOf { State.reset with a := 0x35, f := 0x90 } [0x2F] []
     (t.a, t.f, t.pc, t.cycleCount)) = (0xCA, 0xF0, 0x0101, 4) := by decide

theorem test_R142_37 :
    (let t := stepOf { State.reset with f := 0xE0 } [0x37] []
     (t.f, t.pc, t.cycleCount)) = (0x90, 0x0101, 4) := by decide

theorem test_R143_3F :
    (let t := stepOf { State.reset with f := 0xE0 } [0x3F] []
     (t.f, t.pc, t.cycleCount)) = (0x90, 0x0101, 4) := by decide

/-! #### 16-bit arithmetic (42_alu16.md) (95_test_vectors.md section 2.2) -/

theorem test_R151_33 :
    (let t := stepOf { State.reset with sp := 0xFFFF } [0x33] []
     (t.f, t.sp, t.pc, t.cycleCount)) = (0x00, 0x0000, 0x0101, 8) := by decide

theorem test_R152_1B :
    (let t := stepOf { State.reset with d := 0x00, e := 0x00 } [0x1B] []
     (t.d, t.e, t.f, t.pc, t.cycleCount)) = (0xFF, 0xFF, 0x00, 0x0101, 8) := by decide

theorem test_R153_39 :
    (let t := stepOf { State.reset with h := 0xFF, l := 0xFF, sp := 0x0001, f := 0x80 } [0x39] []
     (t.h, t.l, t.f, t.pc, t.cycleCount)) = (0x00, 0x00, 0xB0, 0x0101, 8) := by decide

theorem test_R154_E8FF :
    (let t := stepOf { State.reset with sp := 0x0000, f := 0xC0 } [0xE8, 0xFF] []
     (t.f, t.sp, t.pc, t.cycleCount)) = (0x00, 0xFFFF, 0x0102, 16) := by decide

theorem test_R155_F802 :
    (let t := stepOf { State.reset with sp := 0xFFF8 } [0xF8, 0x02] []
     (t.h, t.l, t.f, t.pc, t.cycleCount)) = (0xFF, 0xFA, 0x00, 0x0102, 12) := by decide

/-! #### Rotates, shifts and SWAP (43_rotate_shift.md) (95_test_vectors.md section 2.3) -/

theorem test_R171_07 :
    (let t := stepOf { State.reset with a := 0x00, f := 0x80 } [0x07] []
     (t.f, t.pc, t.cycleCount)) = (0x00, 0x0101, 4) := by decide

theorem test_R172_0F :
    (let t := stepOf { State.reset with a := 0x01 } [0x0F] []
     (t.a, t.f, t.pc, t.cycleCount)) = (0x80, 0x10, 0x0101, 4) := by decide

theorem test_R173_17 :
    (let t := stepOf { State.reset with a := 0x95, f := 0x10 } [0x17] []
     (t.a, t.f, t.pc, t.cycleCount)) = (0x2B, 0x10, 0x0101, 4) := by decide

theorem test_R174_1F :
    (let t := stepOf { State.reset with a := 0x01, f := 0x10 } [0x1F] []
     (t.a, t.f, t.pc, t.cycleCount)) = (0x80, 0x10, 0x0101, 4) := by decide

theorem test_R175_CB00 :
    (let t := stepOf { State.reset with b := 0x80 } [0xCB, 0x00] []
     (t.b, t.f, t.pc, t.cycleCount)) = (0x01, 0x10, 0x0102, 8) := by decide

theorem test_R176_CB06 :
    (let t := stepOf { State.reset with h := 0xC0, l := 0x00 } [0xCB, 0x06] [(0xC000, 0x85)]
     (t.f, t.pc, t.byteAt 0xC000, t.cycleCount)) = (0x10, 0x0102, 0x0B, 16) := by decide

theorem test_R177_CB09 :
    (let t := stepOf { State.reset with c := 0x01 } [0xCB, 0x09] []
     (t.c, t.f, t.pc, t.cycleCount)) = (0x80, 0x10, 0x0102, 8) := by decide

theorem test_R178_CB0E :
    (let t := stepOf { State.reset with h := 0xC0, l := 0x00, f := 0x10 } [0xCB, 0x0E] [(0xC000, 0x00)]
     (t.f, t.pc, t.cycleCount)) = (0x80, 0x0102, 16) := by decide

theorem test_R179_CB12 :
    (let t := stepOf { State.reset with d := 0x80 } [0xCB, 0x12] []
     (t.d, t.f, t.pc, t.cycleCount)) = (0x00, 0x90, 0x0102, 8) := by decide

theorem test_R180_CB16 :
    (let t := stepOf { State.reset with h := 0xC0, l := 0x00, f := 0x10 } [0xCB, 0x16] [(0xC000, 0x11)]
     (t.f, t.pc, t.byteAt 0xC000, t.cycleCount)) = (0x00, 0x0102, 0x23, 16) := by decide

theorem test_R181_CB1B :
    (let t := stepOf { State.reset with e := 0x01 } [0xCB, 0x1B] []
     (t.e, t.f, t.pc, t.cycleCount)) = (0x00, 0x90, 0x0102, 8) := by decide

theorem test_R182_CB1E :
    (let t := stepOf { State.reset with h := 0xC0, l := 0x00, f := 0x10 } [0xCB, 0x1E] [(0xC000, 0x8A)]
     (t.f, t.pc, t.byteAt 0xC000, t.cycleCount)) = (0x00, 0x0102, 0xC5, 16) := by decide

theorem test_R183_CB24 :
    (let t := stepOf { State.reset with h := 0x80 } [0xCB, 0x24] []
     (t.h, t.f, t.pc, t.cycleCount)) = (0x00, 0x90, 0x0102, 8) := by decide

theorem test_R184_CB26 :
    (let t := stepOf { State.reset with h := 0xC0, l := 0x00 } [0xCB, 0x26] [(0xC000, 0xFF)]
     (t.f, t.pc, t.byteAt 0xC000, t.cycleCount)) = (0x10, 0x0102, 0xFE, 16) := by decide

theorem test_R185_CB2D :
    (let t := stepOf { State.reset with l := 0x8A } [0xCB, 0x2D] []
     (t.l, t.f, t.pc, t.cycleCount)) = (0xC5, 0x00, 0x0102, 8) := by decide

theorem test_R186_CB2E :
    (let t := stepOf { State.reset with h := 0xC0, l := 0x00 } [0xCB, 0x2E] [(0xC000, 0x01)]
     (t.f, t.pc, t.byteAt 0xC000, t.cycleCount)) = (0x90, 0x0102, 0x00, 16) := by decide

theorem test_R187_CB37 :
    (let t := stepOf { State.reset with a := 0xF0, f := 0x70 } [0xCB, 0x37] []
     (t.a, t.f, t.pc, t.cycleCount)) = (0x0F, 0x00, 0x0102, 8) := by decide

theorem test_R188_CB36 :
    (let t := stepOf { State.reset with h := 0xC0, l := 0x00 } [0xCB, 0x36] [(0xC000, 0xAB)]
     (t.f, t.pc, t.byteAt 0xC000, t.cycleCount)) = (0x00, 0x0102, 0xBA, 16) := by decide

theorem test_R189_CB3F :
    (let t := stepOf { State.reset with a := 0xFF } [0xCB, 0x3F] []
     (t.a, t.f, t.pc, t.cycleCount)) = (0x7F, 0x10, 0x0102, 8) := by decide

theorem test_R190_CB3E :
    (let t := stepOf { State.reset with h := 0xC0, l := 0x00, f := 0x10 } [0xCB, 0x3E] [(0xC000, 0x80)]
     (t.f, t.pc, t.byteAt 0xC000, t.cycleCount)) = (0x00, 0x0102, 0x40, 16) := by decide

/-! #### Bit test, reset and set (44_bit.md) (95_test_vectors.md section 2.4) -/

theorem test_R191_CB7C :
    (let t := stepOf { State.reset with h := 0x7F, f := 0x10 } [0xCB, 0x7C] []
     (t.f, t.pc, t.cycleCount)) = (0xB0, 0x0102, 8) := by decide

theorem test_R192_CB46 :
    (let t := stepOf { State.reset with h := 0xC0, l := 0x00 } [0xCB, 0x46] [(0xC000, 0x01)]
     (t.f, t.pc, t.cycleCount)) = (0x20, 0x0102, 12) := by decide

theorem test_R193_CB9F :
    (let t := stepOf { State.reset with a := 0xFF, f := 0xF0 } [0xCB, 0x9F] []
     (t.a, t.f, t.pc, t.cycleCount)) = (0xF7, 0xF0, 0x0102, 8) := by decide

theorem test_R194_CBBE :
    (let t := stepOf { State.reset with h := 0xC0, l := 0x00 } [0xCB, 0xBE] [(0xC000, 0xFF)]
     (t.f, t.pc, t.byteAt 0xC000, t.cycleCount)) = (0x00, 0x0102, 0x7F, 16) := by decide

theorem test_R195_CBC0 :
    (let t := stepOf { State.reset with b := 0x00 } [0xCB, 0xC0] []
     (t.b, t.f, t.pc, t.cycleCount)) = (0x01, 0x00, 0x0102, 8) := by decide

theorem test_R196_CBFE :
    (let t := stepOf { State.reset with h := 0xC0, l := 0x00 } [0xCB, 0xFE] [(0xC000, 0x00)]
     (t.f, t.pc, t.byteAt 0xC000, t.cycleCount)) = (0x00, 0x0102, 0x80, 16) := by decide

/-! #### Loads (45_load.md) (95_test_vectors.md section 2.5) -/

theorem test_R201_41 :
    (let t := stepOf { State.reset with c := 0x5A, f := 0xF0 } [0x41] []
     (t.b, t.f, t.pc, t.cycleCount)) = (0x5A, 0xF0, 0x0101, 4) := by decide

theorem test_R202_06AB :
    (let t := stepOf State.reset [0x06, 0xAB] []
     (t.b, t.f, t.pc, t.cycleCount)) = (0xAB, 0x00, 0x0102, 8) := by decide

theorem test_R203_66 :
    (let t := stepOf { State.reset with h := 0xC0, l := 0x00 } [0x66] [(0xC000, 0x99)]
     (t.h, t.f, t.pc, t.cycleCount)) = (0x99, 0x00, 0x0101, 8) := by decide

theorem test_R204_75 :
    (let t := stepOf { State.reset with h := 0xC0, l := 0x34 } [0x75] []
     (t.f, t.pc, t.byteAt 0xC034, t.cycleCount)) = (0x00, 0x0101, 0x34, 8) := by decide

theorem test_R205_3677 :
    (let t := stepOf { State.reset with h := 0xC0, l := 0x00 } [0x36, 0x77] []
     (t.f, t.pc, t.byteAt 0xC000, t.cycleCount)) = (0x00, 0x0102, 0x77, 12) := by decide

theorem test_R206_0A :
    (let t := stepOf { State.reset with b := 0xC1, c := 0x23 } [0x0A] [(0xC123, 0x5C)]
     (t.a, t.f, t.pc, t.cycleCount)) = (0x5C, 0x00, 0x0101, 8) := by decide

theorem test_R207_1A :
    (let t := stepOf { State.reset with d := 0xC1, e := 0x23 } [0x1A] [(0xC123, 0x5C)]
     (t.a, t.f, t.pc, t.cycleCount)) = (0x5C, 0x00, 0x0101, 8) := by decide

theorem test_R208_02 :
    (let t := stepOf { State.reset with a := 0x11, b := 0xC1, c := 0x23 } [0x02] []
     (t.f, t.pc, t.byteAt 0xC123, t.cycleCount)) = (0x00, 0x0101, 0x11, 8) := by decide

theorem test_R209_12 :
    (let t := stepOf { State.reset with a := 0x22, d := 0xC1, e := 0x23 } [0x12] []
     (t.f, t.pc, t.byteAt 0xC123, t.cycleCount)) = (0x00, 0x0101, 0x22, 8) := by decide

theorem test_R210_FA00C0 :
    (let t := stepOf State.reset [0xFA, 0x00, 0xC0] [(0xC000, 0x3D)]
     (t.a, t.f, t.pc, t.cycleCount)) = (0x3D, 0x00, 0x0103, 16) := by decide

theorem test_R211_EA00C0 :
    (let t := stepOf { State.reset with a := 0x3D } [0xEA, 0x00, 0xC0] []
     (t.f, t.pc, t.byteAt 0xC000, t.cycleCount)) = (0x00, 0x0103, 0x3D, 16) := by decide

theorem test_R212_22 :
    (let t := stepOf { State.reset with a := 0x01, h := 0xFF, l := 0xFF } [0x22] []
     (t.h, t.l, t.f, t.pc, t.byteAt 0xFFFF, t.cycleCount)) = (0x00, 0x00, 0x00, 0x0101, 0x01, 8) := by decide

theorem test_R213_32 :
    (let t := stepOf { State.reset with a := 0x02, h := 0xC0, l := 0x00 } [0x32] []
     (t.h, t.l, t.f, t.pc, t.byteAt 0xC000, t.cycleCount)) = (0xBF, 0xFF, 0x00, 0x0101, 0x02, 8) := by decide

theorem test_R214_2A :
    (let t := stepOf { State.reset with h := 0xC0, l := 0xFF } [0x2A] [(0xC0FF, 0x44)]
     (t.a, t.h, t.l, t.f, t.pc, t.cycleCount)) = (0x44, 0xC1, 0x00, 0x00, 0x0101, 8) := by decide

theorem test_R215_3A :
    (let t := stepOf { State.reset with h := 0x00, l := 0x00 } [0x3A] [(0x0000, 0x55)]
     (t.a, t.h, t.l, t.f, t.pc, t.cycleCount)) = (0x55, 0xFF, 0xFF, 0x00, 0x0101, 8) := by decide

theorem test_R216_E080 :
    (let t := stepOf { State.reset with a := 0x66 } [0xE0, 0x80] []
     (t.f, t.pc, t.byteAt 0xFF80, t.cycleCount)) = (0x00, 0x0102, 0x66, 12) := by decide

theorem test_R217_F044 :
    (let t := stepOf State.reset [0xF0, 0x44] [(0xFF44, 0x90)]
     (t.a, t.f, t.pc, t.cycleCount)) = (0x90, 0x00, 0x0102, 12) := by decide

theorem test_R218_E2 :
    (let t := stepOf { State.reset with a := 0x77, c := 0x10 } [0xE2] []
     (t.f, t.pc, t.byteAt 0xFF10, t.cycleCount)) = (0x00, 0x0101, 0x77, 8) := by decide

theorem test_R219_F2 :
    (let t := stepOf { State.reset with c := 0x00 } [0xF2] [(0xFF00, 0xCF)]
     (t.a, t.f, t.pc, t.cycleCount)) = (0xCF, 0x00, 0x0101, 8) := by decide

theorem test_R220_11EFBE :
    (let t := stepOf State.reset [0x11, 0xEF, 0xBE] []
     (t.d, t.e, t.f, t.pc, t.cycleCount)) = (0xBE, 0xEF, 0x00, 0x0103, 12) := by decide

theorem test_R221_08FFFF :
    (let t := stepOf { State.reset with sp := 0x1234 } [0x08, 0xFF, 0xFF] []
     (t.f, t.pc, t.byteAt 0x0000, t.byteAt 0xFFFF, t.cycleCount)) = (0x00, 0x0103, 0x12, 0x34, 20) := by decide

theorem test_R222_F9 :
    (let t := stepOf { State.reset with h := 0xC0, l := 0x00 } [0xF9] []
     (t.f, t.sp, t.pc, t.cycleCount)) = (0x00, 0xC000, 0x0101, 8) := by decide

/-! #### Stack (46_stack.md) (95_test_vectors.md section 2.6) -/

theorem test_R241_E5 :
    (let t := stepOf { State.reset with h := 0xBE, l := 0xEF, sp := 0x0001 } [0xE5] []
     (t.f, t.sp, t.pc, t.byteAt 0x0000, t.byteAt 0xFFFF, t.cycleCount)) = (0x00, 0xFFFF, 0x0101, 0xBE, 0xEF, 16) := by decide

theorem test_R242_F5 :
    (let t := stepOf { State.reset with a := 0x12, f := 0xB0 } [0xF5] []
     (t.f, t.sp, t.pc, t.byteAt 0xFFFC, t.byteAt 0xFFFD, t.cycleCount)) = (0xB0, 0xFFFC, 0x0101, 0xB0, 0x12, 16) := by decide

theorem test_R243_D1 :
    (let t := stepOf { State.reset with sp := 0xFFFF } [0xD1] [(0xFFFF, 0x34), (0x0000, 0x12)]
     (t.d, t.e, t.f, t.sp, t.pc, t.cycleCount)) = (0x12, 0x34, 0x00, 0x0001, 0x0101, 12) := by decide

theorem test_R244_F1 :
    (let t := stepOf { State.reset with sp := 0xC000, f := 0xF0 } [0xF1] [(0xC000, 0x0F), (0xC001, 0x00)]
     (t.f, t.sp, t.pc, t.cycleCount)) = (0x00, 0xC002, 0x0101, 12) := by decide

/-! #### Control transfer (47_control.md) (95_test_vectors.md section 2.7) -/

theorem test_R252_C35001 :
    (let t := stepOf { State.reset with f := 0xF0 } [0xC3, 0x50, 0x01] []
     (t.f, t.pc, t.cycleCount)) = (0xF0, 0x0150, 16) := by decide

theorem test_R253_C20002 :
    (let t := stepOf { State.reset with f := 0x80 } [0xC2, 0x00, 0x02] []
     (t.f, t.pc, t.cycleCount)) = (0x80, 0x0103, 12) := by decide

theorem test_R253_DA0002 :
    (let t := stepOf { State.reset with f := 0x10 } [0xDA, 0x00, 0x02] []
     (t.f, t.pc, t.cycleCount)) = (0x10, 0x0200, 16) := by decide

theorem test_R254_E9 :
    (let t := stepOf { State.reset with h := 0xC0, l := 0x00 } [0xE9] []
     (t.f, t.pc, t.cycleCount)) = (0x00, 0xC000, 4) := by decide

theorem test_R255_1880 :
    (let t := stepOf State.reset [0x18, 0x80] []
     (t.f, t.pc, t.cycleCount)) = (0x00, 0x0082, 12) := by decide

theorem test_R256_2005 :
    (let t := stepOf { State.reset with f := 0x80 } [0x20, 0x05] []
     (t.f, t.pc, t.cycleCount)) = (0x80, 0x0102, 8) := by decide

theorem test_R256_38FB :
    (let t := stepOf { State.reset with f := 0x10 } [0x38, 0xFB] []
     (t.f, t.pc, t.cycleCount)) = (0x10, 0x00FD, 12) := by decide

theorem test_R257_CD0002 :
    (let t := stepOf State.reset [0xCD, 0x00, 0x02] []
     (t.f, t.sp, t.pc, t.byteAt 0xFFFC, t.byteAt 0xFFFD, t.cycleCount)) = (0x00, 0xFFFC, 0x0200, 0x03, 0x01, 24) := by decide

theorem test_R258_CC0002 :
    (let t := stepOf { State.reset with f := 0x80 } [0xCC, 0x00, 0x02] []
     (t.f, t.sp, t.pc, t.byteAt 0xFFFC, t.byteAt 0xFFFD, t.cycleCount)) = (0x80, 0xFFFC, 0x0200, 0x03, 0x01, 24) := by decide

theorem test_R259_C9 :
    (let t := stepOf { State.reset with sp := 0xFFFC } [0xC9] [(0xFFFC, 0x03), (0xFFFD, 0x01)]
     (t.f, t.sp, t.pc, t.cycleCount)) = (0x00, 0xFFFE, 0x0103, 16) := by decide

theorem test_R260_C0 :
    (let t := stepOf { State.reset with sp := 0xFFFC } [0xC0] [(0xFFFC, 0x03), (0xFFFD, 0x01)]
     (t.f, t.sp, t.pc, t.cycleCount)) = (0x00, 0xFFFE, 0x0103, 20) := by decide

theorem test_R260_C0b :
    (let t := stepOf { State.reset with sp := 0xFFFC, f := 0x80 } [0xC0] [(0xFFFC, 0x03), (0xFFFD, 0x01)]
     (t.f, t.pc, t.cycleCount)) = (0x80, 0x0101, 8) := by decide

theorem test_R262_D9 :
    (let t := stepOf { State.reset with sp := 0xFFFC, ime := false } [0xD9] [(0xFFFC, 0x03), (0xFFFD, 0x01)]
     (t.f, t.sp, t.pc, t.ime, t.cycleCount)) = (0x00, 0xFFFE, 0x0103, true, 16) := by decide

theorem test_R263_C7 :
    (let t := stepOf { State.reset with sp := 0x0001 } [0xC7] []
     (t.f, t.sp, t.pc, t.byteAt 0x0000, t.byteAt 0xFFFF, t.cycleCount)) = (0x00, 0xFFFF, 0x0000, 0x01, 0x01, 16) := by decide

/-! #### System instructions (48_system.md) (95_test_vectors.md section 2.8) -/

theorem test_R280_00 :
    (let t := stepOf { State.reset with a := 0x12, f := 0xB0, b := 0x34, c := 0x56 } [0x00] []
     (t.f, t.pc, t.cycleCount)) = (0xB0, 0x0101, 4) := by decide

theorem test_R281_76 :
    (let t := stepOf State.reset [0x76] []
     (t.f, t.pc, t.mode, t.cycleCount)) = (0x00, 0x0101, .halted, 4) := by decide

theorem test_R282_10FF :
    (let t := stepOf State.reset [0x10, 0xFF] []
     (t.f, t.pc, t.mode, t.cycleCount)) = (0x00, 0x0102, .stopped, 8) := by decide

theorem test_R284_F3 :
    (let t := stepOf State.reset [0xF3] []
     (t.f, t.pc, t.ime, t.cycleCount)) = (0x00, 0x0101, false, 4) := by decide

theorem test_R285_FB :
    (let t := stepOf { State.reset with ime := false } [0xFB] []
     (t.f, t.pc, t.ime, t.cycleCount)) = (0x00, 0x0101, true, 4) := by decide

/-! #### Illegal opcodes (48_system.md and 60_exceptions.md) (95_test_vectors.md section 2.9) -/

theorem test_R286_DB :
    (let t := stepOf { State.reset with a := 0x55 } [0xDB] []
     (t.f, t.pc, t.mode, t.cycleCount)) = (0x00, 0x0101, .faulted (.illegalOpcode 0xDB 0x0100), 4) := by decide

/-! ### Bus-access order (95_test_vectors.md section 3), and steps outside Running (section 4) -/

theorem test_bus_call : (stepOf State.reset [0xCD, 0x00, 0x02] []).bus.trace.reverse =
    [.read 0x0100 0xCD, .read 0x0101 0x00, .read 0x0102 0x02, .write 0xFFFD 0x01, .write 0xFFFC 0x03] := by decide

theorem test_bus_pop : (stepOf { State.reset with sp := 0xFFFC } [0xC1] [(0xFFFC, 0x34), (0xFFFD, 0x12)]).bus.trace.reverse =
    [.read 0x0100 0xC1, .read 0xFFFC 0x34, .read 0xFFFD 0x12] := by decide

theorem test_bus_inc_at_hl : (stepOf { State.reset with h := 0xC0 } [0x34] [(0xC000, 0x7F)]).bus.trace.reverse =
    [.read 0x0100 0x34, .read 0xC000 0x7F, .write 0xC000 0x80] := by decide

theorem test_bus_jr_not_taken : (stepOf { State.reset with f := 0x80 } [0x20, 0x05] []).bus.trace.reverse =
    [.read 0x0100 0x20, .read 0x0101 0x05] := by decide

theorem test_faulted_step_changes_nothing :
    step { State.reset with mode := .faulted (.illegalOpcode 0xDB 0x0100) } =
      .fault (.coreFaulted (.illegalOpcode 0xDB 0x0100)) := rfl

/-- A write to a read-only window is accepted and ignored (20_memory.md R52; log entry 2). -/
theorem test_read_only_window_ignores_a_write :
    (let s := { State.reset with a := 0x77, h := 0x20, bus := { State.reset.bus with regions := [⟨0x0000, 0x7FFF, .readOnly⟩] } }
     let t := stepOf s [0x77] [(0x2000, 0x11)]
     (t.byteAt 0x2000, t.cycleCount)) = (0x11, 8) := by decide

/-! ### Witnesses: for every statement with hypotheses, a state and operands that meet them -/

/-- A state whose next instruction is LD (HL),B. -/
def sample : State := placed { State.reset with b := 0x42, h := 0xC0 } [0x70] []

theorem test_witness_DecodeInvertsEncode : (Instr.callNcA16 0xFFFF).wellFormed = true := by decide

theorem test_witness_EncodeInvertsDecode : decode [0xCB, 0xFE, 0x00] = .ok (.setAtHl 7, [0x00]) := rfl

theorem test_witness_IllegalBytes_one :
    (0xFD : Byte) ∈ [(0xD3 : Byte), 0xDB, 0xDD, 0xE3, 0xE4, 0xEB, 0xEC, 0xED, 0xF4, 0xFC, 0xFD] := by decide

theorem test_witness_IllegalBytes_other :
    (0xD4 : Byte) ∉ [(0xD3 : Byte), 0xDB, 0xDD, 0xE3, 0xE4, 0xEB, 0xEC, 0xED, 0xF4, 0xFC, 0xFD] ∧
      decode [0xD4, 0x34, 0x12] = .ok (.callNcA16 0x1234, []) := ⟨by decide, rfl⟩

theorem test_witness_FirstByteFixesLength_main :
    decode [0xC3, 0x50, 0x01] = .ok (.jpA16 0x0150, []) ∧ decode [0xC3, 0xFF, 0xFF, 0x00] = .ok (.jpA16 0xFFFF, [0x00]) :=
  ⟨rfl, rfl⟩

theorem test_witness_FirstByteFixesLength_cb :
    decode [0xCB, 0x00] = .ok (.rlcR .b, []) ∧ decode [0xCB, 0xFF] = .ok (.setR 7 .a, []) := ⟨rfl, rfl⟩

theorem test_witness_FirstByteFixesLength_stop :
    decode [0x10, 0x00] = .ok (.stop 0x00, []) ∧ decode [0x10, 0xFF] = .ok (.stop 0xFF, []) := ⟨rfl, rfl⟩

theorem test_witness_StepRunsDecodedInstruction :
    sample.mode = .running ∧ Instr.ldAtHlB.wellFormed = true ∧
      busReads sample.bus sample.pc (encode .ldAtHlB).length = (encode .ldAtHlB, (busReads sample.bus sample.pc 1).2) := by
  decide

/-- At the top of the address space: the third byte is fetched at 0x0000 (the spec's decision D4). -/
theorem test_witness_StepFetchesFromMemory :
    (let s := placed { State.reset with pc := 0xFFFE } [0xC3, 0x50, 0x01] []
     s.mode = .running ∧ (Instr.jpA16 0x0150).wellFormed = true ∧
     ∀ k, (hk : k < (encode (.jpA16 0x0150)).length) → s.bus.kindAt (s.pc + BitVec.ofNat 16 k) = .ram ∧
       s.byteAt (s.pc + BitVec.ofNat 16 k) = (encode (.jpA16 0x0150))[k]) := by
  refine ⟨by decide, by decide, ?_⟩
  intro k hk
  have hk3 : k < 3 := hk
  rcases k with _ | _ | _ | k
  · exact ⟨rfl, rfl⟩
  · exact ⟨rfl, rfl⟩
  · exact ⟨rfl, rfl⟩
  · omega

theorem test_witness_HaltedStepIdles :
    ({ State.reset with mode := .halted } : State).mode = .halted ∧
      ({ State.reset with mode := .stopped } : State).mode = .stopped := by decide

theorem test_witness_FaultedStepReturnsError :
    (stepOf State.reset [0xD3] []).mode = .faulted (.illegalOpcode 0xD3 0x0100) := by decide

theorem test_witness_IllegalStepFaults :
    (let s := placed State.reset [0xFD] []
     s.mode = .running ∧ (0xFD : Byte) ∈ illegalBytes ∧ answer s s.pc = 0xFD) := by decide

/-- RET NZ taken: 20 cycles. -/
theorem test_witness_StepReportsTableCycles_taken :
    (let s := placed State.reset [0xC0] []
     s.mode = .running ∧ stepReport s = (nextOr s (step s), .ok 20) ∧ s.f.getLsbD 7 = false) := by decide

/-- RET NZ not taken: 8 cycles. -/
theorem test_witness_StepReportsTableCycles_not_taken :
    (let s := placed { State.reset with f := 0x80 } [0xC0] []
     s.mode = .running ∧ stepReport s = (nextOr s (step s), .ok 8) ∧ s.f.getLsbD 7 = true) := by decide

theorem test_witness_RunStopsOutsideRunning : (runFor 1 (placed State.reset [0x76] [])).mode = .halted := by decide

theorem sample_inv : sample.Inv := ⟨by decide, by decide, fun _ h => by cases h⟩

theorem test_witness_StepKeepsInvariant : sample.Inv ∧ step sample = .next (stepOf sample [] []) :=
  ⟨sample_inv, rfl⟩

/-- The invariant's clause about errors is met by a state that has one. -/
theorem test_witness_StepKeepsInvariant_faulted : (stepOf State.reset [0xED] []).Inv :=
  ⟨by decide, by decide, fun err h => ⟨0xED, by decide, by
    have key : (stepOf State.reset [0xED] []).mode = .faulted (.illegalOpcode 0xED 0x0100) := by decide
    rw [key] at h
    cases h
    decide⟩⟩

theorem test_witness_LowNibbleOfFIsZero : ({ State.reset with f := 0xF0 } : State).f &&& 0x0F = 0 := by decide

theorem test_witness_FlagPolicyHolds :
    Instr.scf.flagPolicy = some ⟨.unaffected, .reset, .reset, .set⟩ ∧
      Instr.popAf.flagPolicy = some ⟨.computed, .computed, .computed, .computed⟩ := by decide

theorem test_witness_CycleCountOnlyCounts : step sample = .next (stepOf sample [] []) := rfl

theorem test_witness_ImeIsWritten : WritesIme .di ∧ WritesIme .ei ∧ WritesIme .reti ∧ ¬ WritesIme .ret := by
  refine ⟨.inl rfl, .inr (.inl rfl), .inr (.inr rfl), ?_⟩
  rintro (h | h | h) <;> cases h

theorem test_witness_ModeWriters :
    (Instr.illegalD3, (0xD3 : Byte)) ∈ Row.illegal ∧ ∀ op, (Instr.nop, op) ∉ Row.illegal := by
  refine ⟨by decide, ?_⟩
  intro op h
  simp [Row.illegal] at h

theorem test_witness_MemoryHoldsLastWrite :
    (∀ a, sample.bus.kindAt a = .ram) ∧ step sample = .next (stepOf sample [] []) ∧
      (stepOf sample [] []).bus.trace = [.write 0xC000 0x42, .read 0x0100 0x70] :=
  ⟨fun _ => rfl, rfl, by decide⟩

theorem test_witness_BusContract :
    (let b : Bus := { regions := [⟨0x0000, 0x7FFF, .readOnly⟩, ⟨0xFF00, 0xFFFF, .external⟩], mem := [], trace := [] }
     b.kindAt 0x7FFF = .readOnly ∧ b.kindAt 0x8000 = .ram ∧ b.kindAt 0xFF00 = .external) := by decide

/-- DAA at the boundaries of its two conditions: low digit 9 and 10, value 0x99 and 0x9A. -/
theorem test_witness_DaaResult :
    (stepOf { State.reset with a := 0x99 } [0x27] []).a = 0x99 ∧ (stepOf { State.reset with a := 0x9A } [0x27] []).a = 0x00 ∧
      (stepOf { State.reset with a := 0x9A, f := 0x40 } [0x27] []).a = 0x9A := by decide

theorem test_witness_DaaAdjustsDecimalSums :
    (let s := { State.reset with a := 0x99, b := 0x01 }
     s.a.toNat = 16 * (99 / 10) + 99 % 10 ∧ s.b.toNat = 16 * (1 / 10) + 1 % 10) := by decide

theorem test_witness_LoadRegister_self : ∃ dst src : Reg8, dst = src := ⟨.h, .h, rfl⟩

theorem test_witness_PushThenPopRestores :
    (let s := { State.reset with sp := 0x0001 }; s.bus.kindAt (s.sp - 1) = .ram ∧ s.bus.kindAt (s.sp - 2) = .ram) := by
  decide

/-- Both outcomes of every condition: Jumps, RelativeJumps, CallsAndRestarts and Returns. -/
theorem test_witness_conditions :
    (∀ cc, ∃ s, Holds s cc) ∧ ∀ cc, ∃ s, ¬ Holds s cc := by
  constructor
  · intro cc
    cases cc
    · exact ⟨State.reset, rfl⟩
    · exact ⟨{ State.reset with f := 0x80 }, rfl⟩
    · exact ⟨State.reset, rfl⟩
    · exact ⟨{ State.reset with f := 0x10 }, rfl⟩
  · intro cc
    cases cc
    · exact ⟨{ State.reset with f := 0x80 }, by unfold Holds; decide⟩
    · exact ⟨State.reset, by unfold Holds; decide⟩
    · exact ⟨{ State.reset with f := 0x10 }, by unfold Holds; decide⟩
    · exact ⟨State.reset, by unfold Holds; decide⟩

theorem test_witness_CallsAndRestarts : (Instr.rst38, (0x38 : Word)) ∈ Row.rst := by decide

end Sys2Proof.Tests
end

section
/-! The rows of the opcode table by the rule they share (30_encoding.md R84 to R89), so that a proof about every
instruction has one case for each rule and not one for each row. -/

namespace Sys2Proof

/-- Which row an instruction is: one of a rule's rows, by its operands, or a row that stands alone. -/
inductive IsRow : Instr → Prop where
  | ldRR (dst src : Reg8) : IsRow (Row.ldRR dst src)
  | ldRD8 (dst : Reg8) (n : Byte) : IsRow (Row.ldRD8 dst n)
  | ldRAtHl (dst : Reg8) : IsRow (Row.ldRAtHl dst)
  | ldAtHlR (src : Reg8) : IsRow (Row.ldAtHlR src)
  | inc8 (z : Loc8) : IsRow (Row.inc8 z)
  | dec8 (z : Loc8) : IsRow (Row.dec8 z)
  | alu (op : AluOp) (src : Src8) : IsRow (Row.alu op src)
  | ldPairD16 (p : Pair) (nn : Word) : IsRow (Row.ldPairD16 p nn)
  | incPair (p : Pair) : IsRow (Row.incPair p)
  | decPair (p : Pair) : IsRow (Row.decPair p)
  | addHlPair (p : Pair) : IsRow (Row.addHlPair p)
  | push (p : StackPair) : IsRow (Row.push p)
  | pop (p : StackPair) : IsRow (Row.pop p)
  | jrCc (cc : Cond) (e : Byte) : IsRow (Row.jrCc cc e)
  | jpCc (cc : Cond) (nn : Word) : IsRow (Row.jpCc cc nn)
  | callCc (cc : Cond) (nn : Word) : IsRow (Row.callCc cc nn)
  | retCc (cc : Cond) : IsRow (Row.retCc cc)
  | rot (op : RotOp) (z : Loc8) : IsRow (Row.rot op z)
  | bit (b : BitVec 3) (z : Loc8) : IsRow (Row.bit b z)
  | res (b : BitVec 3) (z : Loc8) : IsRow (Row.res b z)
  | set (b : BitVec 3) (z : Loc8) : IsRow (Row.set b z)
  | rst {i : Instr} {target : Word} (hi : (i, target) ∈ Row.rst) : IsRow i
  | illegal {i : Instr} {op : Byte} (hi : (i, op) ∈ Row.illegal) : IsRow i
  | ldAtA16Sp (nn : Word) : IsRow (.ldAtA16Sp nn)
  | stop (x : Byte) : IsRow (.stop x)
  | jrE8 (e : Byte) : IsRow (.jrE8 e)
  | ldAtHlD8 (n : Byte) : IsRow (.ldAtHlD8 n)
  | jpA16 (nn : Word) : IsRow (.jpA16 nn)
  | prefixCb (cbop : Byte) : IsRow (.prefixCb cbop)
  | callA16 (nn : Word) : IsRow (.callA16 nn)
  | ldhAtA8A (n : Byte) : IsRow (.ldhAtA8A n)
  | addSpE8 (e : Byte) : IsRow (.addSpE8 e)
  | ldAtA16A (nn : Word) : IsRow (.ldAtA16A nn)
  | ldhAAtA8 (n : Byte) : IsRow (.ldhAAtA8 n)
  | ldHlSpE8 (e : Byte) : IsRow (.ldHlSpE8 e)
  | ldAAtA16 (nn : Word) : IsRow (.ldAAtA16 nn)
  | nop : IsRow .nop
  | ldAtBcA : IsRow .ldAtBcA
  | rlca : IsRow .rlca
  | ldAAtBc : IsRow .ldAAtBc
  | rrca : IsRow .rrca
  | ldAtDeA : IsRow .ldAtDeA
  | rla : IsRow .rla
  | ldAAtDe : IsRow .ldAAtDe
  | rra : IsRow .rra
  | ldAtHlIncA : IsRow .ldAtHlIncA
  | daa : IsRow .daa
  | ldAAtHlInc : IsRow .ldAAtHlInc
  | cpl : IsRow .cpl
  | ldAtHlDecA : IsRow .ldAtHlDecA
  | scf : IsRow .scf
  | ldAAtHlDec : IsRow .ldAAtHlDec
  | ccf : IsRow .ccf
  | halt : IsRow .halt
  | ret : IsRow .ret
  | reti : IsRow .reti
  | ldAtCA : IsRow .ldAtCA
  | jpHl : IsRow .jpHl
  | ldAAtC : IsRow .ldAAtC
  | di : IsRow .di
  | ldSpHl : IsRow .ldSpHl
  | ei : IsRow .ei

/-- Every instruction is one of these rows. -/
theorem Instr.isRow : (i : Instr) → IsRow i
  | .ldBB => .ldRR .b .b | .ldBC => .ldRR .b .c | .ldBD => .ldRR .b .d | .ldBE => .ldRR .b .e | .ldBH => .ldRR .b .h
  | .ldBL => .ldRR .b .l | .ldBA => .ldRR .b .a | .ldCB => .ldRR .c .b | .ldCC => .ldRR .c .c | .ldCD => .ldRR .c .d
  | .ldCE => .ldRR .c .e | .ldCH => .ldRR .c .h | .ldCL => .ldRR .c .l | .ldCA => .ldRR .c .a | .ldDB => .ldRR .d .b
  | .ldDC => .ldRR .d .c | .ldDD => .ldRR .d .d | .ldDE => .ldRR .d .e | .ldDH => .ldRR .d .h | .ldDL => .ldRR .d .l
  | .ldDA => .ldRR .d .a | .ldEB => .ldRR .e .b | .ldEC => .ldRR .e .c | .ldED => .ldRR .e .d | .ldEE => .ldRR .e .e
  | .ldEH => .ldRR .e .h | .ldEL => .ldRR .e .l | .ldEA => .ldRR .e .a | .ldHB => .ldRR .h .b | .ldHC => .ldRR .h .c
  | .ldHD => .ldRR .h .d | .ldHE => .ldRR .h .e | .ldHH => .ldRR .h .h | .ldHL => .ldRR .h .l | .ldHA => .ldRR .h .a
  | .ldLB => .ldRR .l .b | .ldLC => .ldRR .l .c | .ldLD => .ldRR .l .d | .ldLE => .ldRR .l .e | .ldLH => .ldRR .l .h
  | .ldLL => .ldRR .l .l | .ldLA => .ldRR .l .a | .ldAB => .ldRR .a .b | .ldAC => .ldRR .a .c | .ldAD => .ldRR .a .d
  | .ldAE => .ldRR .a .e | .ldAH => .ldRR .a .h | .ldAL => .ldRR .a .l | .ldAA => .ldRR .a .a
  | .ldBD8 n => .ldRD8 .b n | .ldCD8 n => .ldRD8 .c n | .ldDD8 n => .ldRD8 .d n | .ldED8 n => .ldRD8 .e n
  | .ldHD8 n => .ldRD8 .h n | .ldLD8 n => .ldRD8 .l n | .ldAD8 n => .ldRD8 .a n
  | .ldBAtHl => .ldRAtHl .b | .ldCAtHl => .ldRAtHl .c | .ldDAtHl => .ldRAtHl .d | .ldEAtHl => .ldRAtHl .e
  | .ldHAtHl => .ldRAtHl .h | .ldLAtHl => .ldRAtHl .l | .ldAAtHl => .ldRAtHl .a
  | .ldAtHlB => .ldAtHlR .b | .ldAtHlC => .ldAtHlR .c | .ldAtHlD => .ldAtHlR .d | .ldAtHlE => .ldAtHlR .e
  | .ldAtHlH => .ldAtHlR .h | .ldAtHlL => .ldAtHlR .l | .ldAtHlA => .ldAtHlR .a
  | .incB => .inc8 (.reg .b) | .incC => .inc8 (.reg .c) | .incD => .inc8 (.reg .d) | .incE => .inc8 (.reg .e)
  | .incH => .inc8 (.reg .h) | .incL => .inc8 (.reg .l) | .incAtHl => .inc8 .atHl | .incA => .inc8 (.reg .a)
  | .decB => .dec8 (.reg .b) | .decC => .dec8 (.reg .c) | .decD => .dec8 (.reg .d) | .decE => .dec8 (.reg .e)
  | .decH => .dec8 (.reg .h) | .decL => .dec8 (.reg .l) | .decAtHl => .dec8 .atHl | .decA => .dec8 (.reg .a)
  | .addAD8 n => .alu .add (.imm n) | .adcAD8 n => .alu .adc (.imm n) | .subD8 n => .alu .sub (.imm n)
  | .sbcAD8 n => .alu .sbc (.imm n) | .andD8 n => .alu .and (.imm n) | .xorD8 n => .alu .xor (.imm n)
  | .orD8 n => .alu .or (.imm n) | .cpD8 n => .alu .cp (.imm n) | .addAB => .alu .add (.reg .b)
  | .addAC => .alu .add (.reg .c) | .addAD => .alu .add (.reg .d) | .addAE => .alu .add (.reg .e)
  | .addAH => .alu .add (.reg .h) | .addAL => .alu .add (.reg .l) | .addAAtHl => .alu .add .atHl
  | .addAA => .alu .add (.reg .a) | .adcAB => .alu .adc (.reg .b) | .adcAC => .alu .adc (.reg .c)
  | .adcAD => .alu .adc (.reg .d) | .adcAE => .alu .adc (.reg .e) | .adcAH => .alu .adc (.reg .h)
  | .adcAL => .alu .adc (.reg .l) | .adcAAtHl => .alu .adc .atHl | .adcAA => .alu .adc (.reg .a)
  | .subB => .alu .sub (.reg .b) | .subC => .alu .sub (.reg .c) | .subD => .alu .sub (.reg .d)
  | .subE => .alu .sub (.reg .e) | .subH => .alu .sub (.reg .h) | .subL => .alu .sub (.reg .l)
  | .subAtHl => .alu .sub .atHl | .subA => .alu .sub (.reg .a) | .sbcAB => .alu .sbc (.reg .b)
  | .sbcAC => .alu .sbc (.reg .c) | .sbcAD => .alu .sbc (.reg .d) | .sbcAE => .alu .sbc (.reg .e)
  | .sbcAH => .alu .sbc (.reg .h) | .sbcAL => .alu .sbc (.reg .l) | .sbcAAtHl => .alu .sbc .atHl
  | .sbcAA => .alu .sbc (.reg .a) | .andB => .alu .and (.reg .b) | .andC => .alu .and (.reg .c)
  | .andD => .alu .and (.reg .d) | .andE => .alu .and (.reg .e) | .andH => .alu .and (.reg .h)
  | .andL => .alu .and (.reg .l) | .andAtHl => .alu .and .atHl | .andA => .alu .and (.reg .a)
  | .xorB => .alu .xor (.reg .b) | .xorC => .alu .xor (.reg .c) | .xorD => .alu .xor (.reg .d)
  | .xorE => .alu .xor (.reg .e) | .xorH => .alu .xor (.reg .h) | .xorL => .alu .xor (.reg .l)
  | .xorAtHl => .alu .xor .atHl | .xorA => .alu .xor (.reg .a) | .orB => .alu .or (.reg .b)
  | .orC => .alu .or (.reg .c) | .orD => .alu .or (.reg .d) | .orE => .alu .or (.reg .e) | .orH => .alu .or (.reg .h)
  | .orL => .alu .or (.reg .l) | .orAtHl => .alu .or .atHl | .orA => .alu .or (.reg .a) | .cpB => .alu .cp (.reg .b)
  | .cpC => .alu .cp (.reg .c) | .cpD => .alu .cp (.reg .d) | .cpE => .alu .cp (.reg .e) | .cpH => .alu .cp (.reg .h)
  | .cpL => .alu .cp (.reg .l) | .cpAtHl => .alu .cp .atHl | .cpA => .alu .cp (.reg .a)
  | .ldBcD16 nn => .ldPairD16 .bc nn | .ldDeD16 nn => .ldPairD16 .de nn | .ldHlD16 nn => .ldPairD16 .hl nn
  | .ldSpD16 nn => .ldPairD16 .sp nn
  | .incBc => .incPair .bc | .incDe => .incPair .de | .incHl => .incPair .hl | .incSp => .incPair .sp
  | .decBc => .decPair .bc | .decDe => .decPair .de | .decHl => .decPair .hl | .decSp => .decPair .sp
  | .addHlBc => .addHlPair .bc | .addHlDe => .addHlPair .de | .addHlHl => .addHlPair .hl | .addHlSp => .addHlPair .sp
  | .pushBc => .push .bc | .pushDe => .push .de | .pushHl => .push .hl | .pushAf => .push .af
  | .popBc => .pop .bc | .popDe => .pop .de | .popHl => .pop .hl | .popAf => .pop .af
  | .jrNzE8 e => .jrCc .nz e | .jrZE8 e => .jrCc .z e | .jrNcE8 e => .jrCc .nc e | .jrCE8 e => .jrCc .c e
  | .jpNzA16 nn => .jpCc .nz nn | .jpZA16 nn => .jpCc .z nn | .jpNcA16 nn => .jpCc .nc nn | .jpCA16 nn => .jpCc .c nn
  | .callNzA16 nn => .callCc .nz nn | .callZA16 nn => .callCc .z nn | .callNcA16 nn => .callCc .nc nn
  | .callCA16 nn => .callCc .c nn
  | .retNz => .retCc .nz | .retZ => .retCc .z | .retNc => .retCc .nc | .retC => .retCc .c
  | .rlcR r => .rot .rlc (.reg r) | .rrcR r => .rot .rrc (.reg r) | .rlR r => .rot .rl (.reg r)
  | .rrR r => .rot .rr (.reg r) | .slaR r => .rot .sla (.reg r) | .sraR r => .rot .sra (.reg r)
  | .swapR r => .rot .swap (.reg r) | .srlR r => .rot .srl (.reg r) | .rlcAtHl => .rot .rlc .atHl
  | .rrcAtHl => .rot .rrc .atHl | .rlAtHl => .rot .rl .atHl | .rrAtHl => .rot .rr .atHl | .slaAtHl => .rot .sla .atHl
  | .sraAtHl => .rot .sra .atHl | .swapAtHl => .rot .swap .atHl | .srlAtHl => .rot .srl .atHl
  | .bitR b r => .bit b (.reg r) | .bitAtHl b => .bit b .atHl
  | .resR b r => .res b (.reg r) | .resAtHl b => .res b .atHl
  | .setR b r => .set b (.reg r) | .setAtHl b => .set b .atHl
  | .rst00 => .rst (target := 0x00) (by decide) | .rst08 => .rst (target := 0x08) (by decide)
  | .rst10 => .rst (target := 0x10) (by decide) | .rst18 => .rst (target := 0x18) (by decide)
  | .rst20 => .rst (target := 0x20) (by decide) | .rst28 => .rst (target := 0x28) (by decide)
  | .rst30 => .rst (target := 0x30) (by decide) | .rst38 => .rst (target := 0x38) (by decide)
  | .illegalD3 => .illegal (op := 0xD3) (by decide) | .illegalDB => .illegal (op := 0xDB) (by decide)
  | .illegalDD => .illegal (op := 0xDD) (by decide) | .illegalE3 => .illegal (op := 0xE3) (by decide)
  | .illegalE4 => .illegal (op := 0xE4) (by decide) | .illegalEB => .illegal (op := 0xEB) (by decide)
  | .illegalEC => .illegal (op := 0xEC) (by decide) | .illegalED => .illegal (op := 0xED) (by decide)
  | .illegalF4 => .illegal (op := 0xF4) (by decide) | .illegalFC => .illegal (op := 0xFC) (by decide)
  | .illegalFD => .illegal (op := 0xFD) (by decide)
  | .ldAtA16Sp nn => .ldAtA16Sp nn | .stop x => .stop x | .jrE8 e => .jrE8 e | .ldAtHlD8 n => .ldAtHlD8 n
  | .jpA16 nn => .jpA16 nn | .prefixCb cbop => .prefixCb cbop | .callA16 nn => .callA16 nn
  | .ldhAtA8A n => .ldhAtA8A n | .addSpE8 e => .addSpE8 e | .ldAtA16A nn => .ldAtA16A nn | .ldhAAtA8 n => .ldhAAtA8 n
  | .ldHlSpE8 e => .ldHlSpE8 e | .ldAAtA16 nn => .ldAAtA16 nn | .nop => .nop | .ldAtBcA => .ldAtBcA | .rlca => .rlca
  | .ldAAtBc => .ldAAtBc | .rrca => .rrca | .ldAtDeA => .ldAtDeA | .rla => .rla | .ldAAtDe => .ldAAtDe | .rra => .rra
  | .ldAtHlIncA => .ldAtHlIncA | .daa => .daa | .ldAAtHlInc => .ldAAtHlInc | .cpl => .cpl | .ldAtHlDecA => .ldAtHlDecA
  | .scf => .scf | .ldAAtHlDec => .ldAAtHlDec | .ccf => .ccf | .halt => .halt | .ret => .ret | .reti => .reti
  | .ldAtCA => .ldAtCA | .jpHl => .jpHl | .ldAAtC => .ldAAtC | .di => .di | .ldSpHl => .ldSpHl | .ei => .ei

end Sys2Proof
end

section
/-! ime, the mode and cycle_count: what an instruction reads of them (nothing) and what it does to them
(10_state.md R30 to R32). -/

namespace Sys2Proof.Machine

open Sys2Proof.Claim

/-- The state with other values of ime, the mode and the counter. -/
def State.withControl (s : State) (ime : Bool) (m : Mode) (n : Nat) : State :=
  { s with ime := ime, mode := m, cycleCount := n }

@[simp] theorem State.withControl_self (s : State) : s.withControl s.ime s.mode s.cycleCount = s := rfl

/-- The cycles of one access to an operand: a register has none (43_rotate_shift.md R170). -/
def accessCycles : Loc8 → Nat
  | .reg _ => 0
  | .atHl => 4

/-! ### How the operations meet it -/

section
variable (s : State) (ime : Bool) (m : Mode) (n : Nat)

@[simp] theorem State.withControl_cond (cc : Cond) : (s.withControl ime m n).cond cc = s.cond cc := by
  cases cc <;> rfl

@[simp] theorem State.withControl_cf : (s.withControl ime m n).cf = s.cf := rfl

@[simp] theorem State.withControl_zf : (s.withControl ime m n).zf = s.zf := rfl

@[simp] theorem State.withControl_hl : (s.withControl ime m n).hl = s.hl := rfl

@[simp] theorem State.withControl_reg8 (r : Reg8) : (s.withControl ime m n).reg8 r = s.reg8 r := by
  cases r <;> rfl

@[simp] theorem State.withControl_pair (p : Pair) : (s.withControl ime m n).pair p = s.pair p := by
  cases p <;> rfl

@[simp] theorem State.withControl_setReg8 (r : Reg8) (v : Byte) :
    (s.withControl ime m n).setReg8 r v = (s.setReg8 r v).withControl ime m n := by
  cases r <;> rfl

@[simp] theorem State.withControl_setPair (p : Pair) (v : Word) :
    (s.withControl ime m n).setPair p v = (s.setPair p v).withControl ime m n := by
  cases p <;> rfl

@[simp] theorem State.withControl_setFlags (z nf h c : Bool) :
    (s.withControl ime m n).setFlags z nf h c = (s.setFlags z nf h c).withControl ime m n := rfl

@[simp] theorem State.withControl_internal (k : Nat) :
    (s.withControl ime m n).internal k = (s.internal k).withControl ime m (n + 4 * k) := rfl

@[simp] theorem State.withControl_memRead (addr : Word) : (s.withControl ime m n).memRead addr =
    ((s.memRead addr).1, (s.memRead addr).2.withControl ime m (n + 4)) := rfl

@[simp] theorem State.withControl_getLoc (z : Loc8) : (s.withControl ime m n).getLoc z =
    ((s.getLoc z).1, (s.getLoc z).2.withControl ime m (n + accessCycles z)) := by
  cases z
  · simp [State.getLoc, accessCycles]
  · rfl

@[simp] theorem State.withControl_putLoc (z : Loc8) (v : Byte) : (s.withControl ime m n).putLoc z v =
    (s.putLoc z v).withControl ime m (n + accessCycles z) := by
  cases z
  · exact State.withControl_setReg8 s ime m n _ v
  · rfl

end

/-- The operation reads neither ime nor the mode nor the counter, leaves the first two, and adds to the counter what
the rest of the state alone decides. -/
def Ordinary (op : State → State) : Prop :=
  ∀ s, ∃ d, ∀ ime m n, op (s.withControl ime m n) = (op s).withControl ime m (n + d)

/-! ### The meanings -/

theorem Ordinary.comp {f g : State → State} (hg : Ordinary g) (hf : Ordinary f) : Ordinary fun s => g (f s) := by
  intro s
  obtain ⟨d, hd⟩ := hf s
  obtain ⟨d', hd'⟩ := hg (f s)
  exact ⟨d + d', fun ime m n => by simp only [hd, hd', Nat.add_assoc]⟩

theorem Ordinary.setReg8 (r : Reg8) (v : Byte) : Ordinary fun s => s.setReg8 r v := fun _ => ⟨0, by simp⟩

theorem Ordinary.loadReg (dst src : Reg8) : Ordinary fun s => s.loadReg dst src := fun _ =>
  ⟨0, by simp [State.loadReg]⟩

theorem Ordinary.loadFromHl (dst : Reg8) : Ordinary fun s => s.loadFrom dst s.hl := fun _ =>
  ⟨4, by simp [State.loadFrom]⟩

theorem Ordinary.storeReg (src : Reg8) : Ordinary fun s => s.memWrite s.hl (s.reg8 src) := fun _ =>
  ⟨4, fun _ _ _ => rfl⟩

theorem Ordinary.aluOp (op : AluOp) (src : Src8) : Ordinary fun s => s.aluOp op src := by
  intro s
  cases src with
  | reg r => cases op <;> exact ⟨0, fun _ _ _ => rfl⟩
  | atHl => cases op <;> exact ⟨4, fun _ _ _ => rfl⟩
  | imm n => cases op <;> exact ⟨0, fun _ _ _ => rfl⟩

theorem Ordinary.inc8 (z : Loc8) : Ordinary fun s => s.inc8 z := fun _ =>
  ⟨accessCycles z + accessCycles z, by simp [State.inc8, Nat.add_assoc]⟩

theorem Ordinary.dec8 (z : Loc8) : Ordinary fun s => s.dec8 z := fun _ =>
  ⟨accessCycles z + accessCycles z, by simp [State.dec8, Nat.add_assoc]⟩

theorem Ordinary.rotateLoc (op : RotOp) (z : Loc8) : Ordinary fun s => s.rotateLoc op z := fun _ =>
  ⟨accessCycles z + accessCycles z, by simp [State.rotateLoc, Nat.add_assoc]⟩

theorem Ordinary.testBit (b : BitVec 3) (z : Loc8) : Ordinary fun s => s.testBit b z := fun _ =>
  ⟨accessCycles z, by simp [State.testBit]⟩

theorem Ordinary.clearBit (b : BitVec 3) (z : Loc8) : Ordinary fun s => s.clearBit b z := fun _ =>
  ⟨accessCycles z + accessCycles z, by simp [State.clearBit, Nat.add_assoc]⟩

theorem Ordinary.putBit (b : BitVec 3) (z : Loc8) : Ordinary fun s => s.putBit b z := fun _ =>
  ⟨accessCycles z + accessCycles z, by simp [State.putBit, Nat.add_assoc]⟩

theorem Ordinary.setPair (p : Pair) (v : Word) : Ordinary fun s => s.setPair p v := fun _ => ⟨0, by simp⟩

theorem Ordinary.incPair (p : Pair) : Ordinary fun s => s.incPair p := fun _ => ⟨4, by simp [State.incPair]⟩

theorem Ordinary.decPair (p : Pair) : Ordinary fun s => s.decPair p := fun _ => ⟨4, by simp [State.decPair]⟩

theorem Ordinary.addHl (p : Pair) : Ordinary fun s => s.addHl p := fun _ => ⟨4, by simp [State.addHl]⟩

theorem Ordinary.pushPair (p : StackPair) : Ordinary fun s => s.pushPair p := by
  intro s
  cases p <;> exact ⟨12, fun _ _ _ => rfl⟩

theorem Ordinary.popPair (p : StackPair) : Ordinary fun s => s.popPair p := by
  intro s
  cases p <;> exact ⟨8, fun _ _ _ => rfl⟩

theorem Ordinary.internal (k : Nat) : Ordinary fun s => s.internal k := fun _ => ⟨4 * k, fun _ _ _ => rfl⟩

theorem Ordinary.callTo (addr : Word) : Ordinary fun s => s.callTo addr := fun _ => ⟨12, fun _ _ _ => rfl⟩

theorem Ordinary.returnToStack : Ordinary State.returnToStack := fun _ => ⟨12, fun _ _ _ => rfl⟩

/-- A conditional transfer reads the flags alone. -/
theorem Ordinary.whenCond (cc : Cond) {taken : State → State} (h : Ordinary taken) :
    Ordinary fun s => s.whenCond cc (taken s) := by
  intro s
  by_cases hc : s.cond cc
  · obtain ⟨d, hd⟩ := h s
    exact ⟨d, fun ime m n => by simp [State.whenCond, hc, hd]⟩
  · exact ⟨0, fun ime m n => by simp [State.whenCond, hc]⟩

theorem Ordinary.returnWhen (cc : Cond) : Ordinary fun s => s.returnWhen cc :=
  (Ordinary.returnToStack.whenCond cc).comp (.internal 1)

/-! ### The instructions -/

/-- Executing the instruction is an ordinary operation. -/
def IsOrdinary (i : Instr) : Prop := ∃ op : State → State, (∀ s, exec i s = .next (op s)) ∧ Ordinary op

/-- The instructions that write ime or the mode (10_state.md R30, R31). -/
inductive WritesControl : Instr → Prop where
  | ime {i : Instr} (hi : WritesIme i) : WritesControl i
  | halt : WritesControl .halt
  | stop (x : Byte) : WritesControl (.stop x)
  | illegal {i : Instr} (op : Byte) (hi : (i, op) ∈ Row.illegal) : WritesControl i

theorem isOrdinary_decodeCb (cbop : Byte) : IsOrdinary (decodeCb cbop) := by
  obtain ⟨op, z, h⟩ | ⟨b, z, h⟩ | ⟨b, z, h⟩ | ⟨b, z, h⟩ := decodeCb_cases cbop
  · exact ⟨_, h ▸ exec_rot op z, .rotateLoc op z⟩
  · exact ⟨_, h ▸ exec_bit b z, .testBit b z⟩
  · exact ⟨_, h ▸ exec_res b z, .clearBit b z⟩
  · exact ⟨_, h ▸ exec_set b z, .putBit b z⟩

/-- Every instruction but those that write ime or the mode is ordinary. -/
theorem writesControl_or_isOrdinary (i : Instr) : WritesControl i ∨ IsOrdinary i := by
  cases i.isRow with
  | di => exact .inl (.ime (.inl rfl))
  | ei => exact .inl (.ime (.inr (.inl rfl)))
  | reti => exact .inl (.ime (.inr (.inr rfl)))
  | halt => exact .inl .halt
  | stop x => exact .inl (.stop x)
  | illegal hi => exact .inl (.illegal _ hi)
  | ldRR dst src => exact .inr ⟨_, exec_ldRR dst src, .loadReg dst src⟩
  | ldRD8 dst n => exact .inr ⟨_, exec_ldRD8 dst n, .setReg8 dst n⟩
  | ldRAtHl dst => exact .inr ⟨_, exec_ldRAtHl dst, .loadFromHl dst⟩
  | ldAtHlR src => exact .inr ⟨_, exec_ldAtHlR src, .storeReg src⟩
  | inc8 z => exact .inr ⟨_, exec_inc8 z, .inc8 z⟩
  | dec8 z => exact .inr ⟨_, exec_dec8 z, .dec8 z⟩
  | alu op src => exact .inr ⟨_, exec_alu op src, .aluOp op src⟩
  | ldPairD16 p nn => exact .inr ⟨_, exec_ldPairD16 p nn, .setPair p nn⟩
  | incPair p => exact .inr ⟨_, exec_incPair p, .incPair p⟩
  | decPair p => exact .inr ⟨_, exec_decPair p, .decPair p⟩
  | addHlPair p => exact .inr ⟨_, exec_addHlPair p, .addHl p⟩
  | push p => exact .inr ⟨_, exec_push p, .pushPair p⟩
  | pop p => exact .inr ⟨_, exec_pop p, .popPair p⟩
  | jrCc cc e => exact .inr ⟨_, exec_jrCc cc e, .whenCond cc fun _ => ⟨4, fun _ _ _ => rfl⟩⟩
  | jpCc cc nn => exact .inr ⟨_, exec_jpCc cc nn, .whenCond cc fun _ => ⟨4, fun _ _ _ => rfl⟩⟩
  | callCc cc nn => exact .inr ⟨_, exec_callCc cc nn, .whenCond cc (.callTo nn)⟩
  | retCc cc => exact .inr ⟨_, exec_retCc cc, .returnWhen cc⟩
  | rot op z => exact .inr ⟨_, exec_rot op z, .rotateLoc op z⟩
  | bit b z => exact .inr ⟨_, exec_bit b z, .testBit b z⟩
  | res b z => exact .inr ⟨_, exec_res b z, .clearBit b z⟩
  | set b z => exact .inr ⟨_, exec_set b z, .putBit b z⟩
  | rst hi => exact .inr ⟨_, exec_rst hi, .callTo _⟩
  | prefixCb cbop =>
    obtain ⟨op, hexec, hop⟩ := isOrdinary_decodeCb cbop
    exact .inr ⟨op, fun s => by rw [exec_prefixCb, hexec], hop⟩
  | callA16 nn => exact .inr ⟨_, fun _ => rfl, .callTo nn⟩
  | ret => exact .inr ⟨_, fun _ => rfl, .returnToStack⟩
  | nop | rlca | rrca | rla | rra | daa | cpl | scf | ccf | jpHl =>
    exact .inr ⟨_, fun _ => rfl, fun _ => ⟨0, fun _ _ _ => rfl⟩⟩
  | jrE8 e | jpA16 nn | ldHlSpE8 e | ldSpHl =>
    exact .inr ⟨_, fun _ => rfl, fun _ => ⟨4, fun _ _ _ => rfl⟩⟩
  | ldAtHlD8 n | ldhAtA8A n | ldAtA16A nn | ldAtBcA | ldAtDeA | ldAtHlIncA | ldAtHlDecA | ldAtCA =>
    exact .inr ⟨_, fun _ => rfl, fun _ => ⟨4, fun _ _ _ => rfl⟩⟩
  | ldhAAtA8 n | ldAAtA16 nn | ldAAtBc | ldAAtDe | ldAAtHlInc | ldAAtHlDec | ldAAtC =>
    exact .inr ⟨_, fun _ => rfl, fun _ => ⟨4, fun _ _ _ => rfl⟩⟩
  | ldAtA16Sp nn | addSpE8 e => exact .inr ⟨_, fun _ => rfl, fun _ => ⟨8, fun _ _ _ => rfl⟩⟩

end Sys2Proof.Machine
end

section
/-! The flags column of the opcode table against the meanings (10_state.md R25). -/

namespace Sys2Proof

/-! ### The policy of the rows of one rule -/

/-- The policy of the instructions that write no flag. -/
def FlagPolicy.keep : FlagPolicy := ⟨.unaffected, .unaffected, .unaffected, .unaffected⟩

/-- The policy of an 8-bit ALU operation (41_alu8.md R112 to R135). -/
def AluOp.flagPolicy : AluOp → FlagPolicy
  | .add | .adc => ⟨.computed, .reset, .computed, .computed⟩
  | .sub | .sbc | .cp => ⟨.computed, .set, .computed, .computed⟩
  | .and => ⟨.computed, .reset, .set, .reset⟩
  | .xor | .or => ⟨.computed, .reset, .reset, .reset⟩

/-- The policy of a CB rotate, shift or SWAP (43_rotate_shift.md R175 to R190). -/
def RotOp.flagPolicy : RotOp → FlagPolicy
  | .swap => ⟨.computed, .reset, .reset, .reset⟩
  | _ => ⟨.computed, .reset, .reset, .computed⟩

/-- The policy of POP: only AF brings flags with it (46_stack.md R243, R244). -/
def StackPair.popPolicy : StackPair → FlagPolicy
  | .af => ⟨.computed, .computed, .computed, .computed⟩
  | _ => .keep

theorem flagPolicy_ldRR (dst src : Reg8) : (Row.ldRR dst src).flagPolicy = some .keep := by
  cases dst <;> cases src <;> rfl

theorem flagPolicy_ldRD8 (dst : Reg8) (n : Byte) : (Row.ldRD8 dst n).flagPolicy = some .keep := by
  cases dst <;> rfl

theorem flagPolicy_ldRAtHl (dst : Reg8) : (Row.ldRAtHl dst).flagPolicy = some .keep := by
  cases dst <;> rfl

theorem flagPolicy_ldAtHlR (src : Reg8) : (Row.ldAtHlR src).flagPolicy = some .keep := by
  cases src <;> rfl

theorem flagPolicy_inc8 (z : Loc8) :
    (Row.inc8 z).flagPolicy = some ⟨.computed, .reset, .computed, .unaffected⟩ := by
  rcases z with r | _
  · cases r <;> rfl
  · rfl

theorem flagPolicy_dec8 (z : Loc8) :
    (Row.dec8 z).flagPolicy = some ⟨.computed, .set, .computed, .unaffected⟩ := by
  rcases z with r | _
  · cases r <;> rfl
  · rfl

theorem flagPolicy_alu (op : AluOp) (src : Src8) : (Row.alu op src).flagPolicy = some op.flagPolicy := by
  rcases src with r | _ | n
  · cases op <;> cases r <;> rfl
  · cases op <;> rfl
  · cases op <;> rfl

theorem flagPolicy_ldPairD16 (p : Pair) (nn : Word) : (Row.ldPairD16 p nn).flagPolicy = some .keep := by
  cases p <;> rfl

theorem flagPolicy_incPair (p : Pair) : (Row.incPair p).flagPolicy = some .keep := by cases p <;> rfl

theorem flagPolicy_decPair (p : Pair) : (Row.decPair p).flagPolicy = some .keep := by cases p <;> rfl

theorem flagPolicy_addHlPair (p : Pair) :
    (Row.addHlPair p).flagPolicy = some ⟨.unaffected, .reset, .computed, .computed⟩ := by
  cases p <;> rfl

theorem flagPolicy_push (p : StackPair) : (Row.push p).flagPolicy = some .keep := by cases p <;> rfl

theorem flagPolicy_pop (p : StackPair) : (Row.pop p).flagPolicy = some p.popPolicy := by cases p <;> rfl

theorem flagPolicy_jrCc (cc : Cond) (e : Byte) : (Row.jrCc cc e).flagPolicy = some .keep := by cases cc <;> rfl

theorem flagPolicy_jpCc (cc : Cond) (nn : Word) : (Row.jpCc cc nn).flagPolicy = some .keep := by cases cc <;> rfl

theorem flagPolicy_callCc (cc : Cond) (nn : Word) : (Row.callCc cc nn).flagPolicy = some .keep := by
  cases cc <;> rfl

theorem flagPolicy_retCc (cc : Cond) : (Row.retCc cc).flagPolicy = some .keep := by cases cc <;> rfl

theorem flagPolicy_rot (op : RotOp) (z : Loc8) : (Row.rot op z).flagPolicy = some op.flagPolicy := by
  cases op <;> cases z <;> rfl

theorem flagPolicy_bit (b : BitVec 3) (z : Loc8) :
    (Row.bit b z).flagPolicy = some ⟨.computed, .reset, .set, .unaffected⟩ := by
  cases z <;> rfl

theorem flagPolicy_res (b : BitVec 3) (z : Loc8) : (Row.res b z).flagPolicy = some .keep := by cases z <;> rfl

theorem flagPolicy_set (b : BitVec 3) (z : Loc8) : (Row.set b z).flagPolicy = some .keep := by cases z <;> rfl

theorem flagPolicy_rst {i : Instr} {target : Word} (hi : (i, target) ∈ Row.rst) : i.flagPolicy = some .keep := by
  have every : ∀ row ∈ Row.rst, row.1.flagPolicy = some .keep := by decide
  exact every _ hi

theorem flagPolicy_illegal {i : Instr} {op : Byte} (hi : (i, op) ∈ Row.illegal) : i.flagPolicy = some .keep := by
  have every : ∀ row ∈ Row.illegal, row.1.flagPolicy = some .keep := by decide
  exact every _ hi

end Sys2Proof

namespace Sys2Proof.Machine

open Sys2Proof.Claim

/-! ### What the meanings do to the flags -/

/-- From `s` to `t`, each flag goes as the policy says. -/
def PolicyHolds (policy : FlagPolicy) (s t : State) : Prop :=
  EffectHolds policy.z s.zf t.zf ∧ EffectHolds policy.n s.nf t.nf ∧
    EffectHolds policy.h s.hf t.hf ∧ EffectHolds policy.c s.cf t.cf

/-- An instruction keeps to its own row's policy. -/
def ObeysPolicy (i : Instr) : Prop :=
  ∀ (policy : FlagPolicy) (s : State), i.flagPolicy = some policy → ∃ t, exec i s = .next t ∧ PolicyHolds policy s t

theorem PolicyHolds.of_f {s t : State} (h : t.f = s.f) : PolicyHolds .keep s t := by
  simp [PolicyHolds, FlagPolicy.keep, EffectHolds, State.zf, State.nf, State.hf, State.cf, h]

/-- The flags after they are written: the policy holds when each value written is one the policy allows. -/
theorem PolicyHolds.setFlags {policy : FlagPolicy} {s u : State} {z n h c : Bool}
    (hz : EffectHolds policy.z s.zf z) (hn : EffectHolds policy.n s.nf n) (hh : EffectHolds policy.h s.hf h)
    (hc : EffectHolds policy.c s.cf c) : PolicyHolds policy s (u.setFlags z n h c) := by
  simpa [PolicyHolds] using ⟨hz, hn, hh, hc⟩

theorem PolicyHolds.aluOp (op : AluOp) (src : Src8) (s : State) : PolicyHolds op.flagPolicy s (s.aluOp op src) := by
  cases op with
  | add | adc => exact .setFlags trivial rfl trivial trivial
  | sub | sbc | cp => exact .setFlags trivial rfl trivial trivial
  | and => exact .setFlags trivial rfl rfl rfl
  | xor | or => exact .setFlags trivial rfl rfl rfl

theorem PolicyHolds.rotateLoc (op : RotOp) (z : Loc8) (s : State) :
    PolicyHolds op.flagPolicy s (s.rotateLoc op z) := by
  cases op with
  | swap => exact .setFlags trivial rfl rfl rfl
  | rlc | rrc | rl | rr | sla | sra | srl => exact .setFlags trivial rfl rfl trivial

theorem PolicyHolds.popPair (p : StackPair) (s : State) : PolicyHolds p.popPolicy s (s.popPair p) := by
  cases p with
  | af => exact ⟨trivial, trivial, trivial, trivial⟩
  | bc | de | hl => exact .of_f (by simp [State.popPair, State.setStackPair_f, State.pop16_eq])

theorem ObeysPolicy.intro {i : Instr} {policy : FlagPolicy} {op : State → State} (hi : i.flagPolicy = some policy)
    (hexec : ∀ s, exec i s = .next (op s)) (h : ∀ s, PolicyHolds policy s (op s)) : ObeysPolicy i := by
  intro policy' s hi'
  obtain rfl : policy = policy' := Option.some.inj (hi.symm.trans hi')
  exact ⟨op s, hexec s, h s⟩

/-- A row that writes no flag: it is enough that F stays. -/
theorem ObeysPolicy.keep {i : Instr} {op : State → State} (hi : i.flagPolicy = some .keep)
    (hexec : ∀ s, exec i s = .next (op s)) (hf : ∀ s, (op s).f = s.f) : ObeysPolicy i :=
  .intro hi hexec fun s => .of_f (hf s)

/-! ### The instructions -/

theorem obeysPolicy (i : Instr) : ObeysPolicy i := by
  cases i.isRow with
  | prefixCb cbop => exact fun _ _ hi => nomatch hi
  -- the rows that write no flag
  | ldRR dst src => exact .keep (flagPolicy_ldRR dst src) (exec_ldRR dst src) fun s => by simp [State.loadReg]
  | ldRD8 dst n => exact .keep (flagPolicy_ldRD8 dst n) (exec_ldRD8 dst n) fun s => by simp
  | ldRAtHl dst => exact .keep (flagPolicy_ldRAtHl dst) (exec_ldRAtHl dst) fun s => by simp [State.loadFrom]
  | ldAtHlR src => exact .keep (flagPolicy_ldAtHlR src) (exec_ldAtHlR src) fun _ => rfl
  | ldPairD16 p nn => exact .keep (flagPolicy_ldPairD16 p nn) (exec_ldPairD16 p nn) fun s => by simp
  | incPair p => exact .keep (flagPolicy_incPair p) (exec_incPair p) fun s => by simp [State.incPair]
  | decPair p => exact .keep (flagPolicy_decPair p) (exec_decPair p) fun s => by simp [State.decPair]
  | push p => exact .keep (flagPolicy_push p) (exec_push p) fun _ => rfl
  | jrCc cc e => exact .keep (flagPolicy_jrCc cc e) (exec_jrCc cc e) fun s => by simp [State.jumpTo_eq]
  | jpCc cc nn => exact .keep (flagPolicy_jpCc cc nn) (exec_jpCc cc nn) fun s => by simp [State.jumpTo_eq]
  | callCc cc nn => exact .keep (flagPolicy_callCc cc nn) (exec_callCc cc nn) fun s => by simp [State.callTo_eq]
  | retCc cc =>
    exact .keep (flagPolicy_retCc cc) (exec_retCc cc) fun s => by simp [State.returnWhen, State.returnToStack_eq]
  | res b z => exact .keep (flagPolicy_res b z) (exec_res b z) fun s => by simp [State.clearBit]
  | set b z => exact .keep (flagPolicy_set b z) (exec_set b z) fun s => by simp [State.putBit]
  | rst hi => exact .keep (flagPolicy_rst hi) (exec_rst hi) fun s => by rw [State.callTo_eq]
  | illegal hi => exact .keep (flagPolicy_illegal hi) (exec_illegal hi) fun _ => rfl
  | nop | stop x | halt | di | ei | jrE8 e | jpA16 nn | jpHl =>
    exact .keep rfl (fun _ => rfl) fun _ => rfl
  | callA16 nn => exact .keep rfl (fun _ => rfl) fun s => by rw [State.callTo_eq]
  | ret | reti => exact .keep rfl (fun _ => rfl) fun s => by simp [State.returnToStack_eq]
  | ldAtA16Sp nn | ldAtHlD8 n | ldhAtA8A n | ldAtA16A nn | ldAtBcA | ldAtDeA | ldAtHlIncA | ldAtHlDecA | ldAtCA =>
    exact .keep rfl (fun _ => rfl) fun _ => rfl
  | ldhAAtA8 n | ldAAtA16 nn | ldAAtBc | ldAAtDe | ldAAtHlInc | ldAAtHlDec | ldAAtC | ldSpHl =>
    exact .keep rfl (fun _ => rfl) fun _ => rfl
  -- the rows that write flags
  | inc8 z => exact .intro (flagPolicy_inc8 z) (exec_inc8 z) fun _ => .setFlags trivial rfl trivial rfl
  | dec8 z => exact .intro (flagPolicy_dec8 z) (exec_dec8 z) fun _ => .setFlags trivial rfl trivial rfl
  | alu op src => exact .intro (flagPolicy_alu op src) (exec_alu op src) (PolicyHolds.aluOp op src)
  | addHlPair p =>
    exact .intro (flagPolicy_addHlPair p) (exec_addHlPair p) fun _ => .setFlags rfl rfl trivial trivial
  | pop p => exact .intro (flagPolicy_pop p) (exec_pop p) (PolicyHolds.popPair p)
  | rot op z => exact .intro (flagPolicy_rot op z) (exec_rot op z) (PolicyHolds.rotateLoc op z)
  | bit b z => exact .intro (flagPolicy_bit b z) (exec_bit b z) fun _ => .setFlags trivial rfl rfl rfl
  | rlca | rrca | rla | rra => exact .intro rfl (fun _ => rfl) fun _ => .setFlags rfl rfl rfl trivial
  | addSpE8 e | ldHlSpE8 e => exact .intro rfl (fun _ => rfl) fun _ => .setFlags rfl rfl trivial trivial
  | daa => exact .intro rfl (fun _ => rfl) fun _ => .setFlags trivial rfl rfl trivial
  | cpl => exact .intro rfl (fun _ => rfl) fun _ => .setFlags rfl rfl rfl rfl
  | scf => exact .intro rfl (fun _ => rfl) fun _ => .setFlags rfl rfl rfl rfl
  | ccf => exact .intro rfl (fun _ => rfl) fun _ => .setFlags rfl rfl rfl trivial

/-- Settles O19: every row is one of a rule's, and each rule's meaning writes the flags its policy allows. -/
theorem flagPolicyHolds : Obligations.FlagPolicyHolds := obeysPolicy

end Sys2Proof.Machine
end

section
/-! The statements about ime, the mode and cycle_count (10_state.md R30 to R32). -/

namespace Sys2Proof.Machine

open Sys2Proof.Claim

/-- Everything an ordinary instruction does to ime, the mode and the counter, whatever they were before. -/
theorem IsOrdinary.exec_withControl {i : Instr} (hi : IsOrdinary i) (s : State) : ∃ (t : State) (d : Nat), ∀ ime m n,
    exec i (s.withControl ime m n) = .next (t.withControl ime m (n + d)) := by
  obtain ⟨op, hexec, hop⟩ := hi
  obtain ⟨d, hd⟩ := hop s
  exact ⟨op s, d, fun ime m n => by rw [hexec, hd]⟩

/-- Settles O22: an ordinary instruction neither reads nor writes ime, and the others are looked at one by one. -/
theorem imeIsWrittenByThreeAndReadByNone : Obligations.ImeIsWrittenByThreeAndReadByNone := by
  intro i s v
  by_cases hw : WritesIme i
  · obtain rfl | rfl | rfl := hw
    · exact ⟨_, rfl, fun h => absurd (.inl rfl) h, fun _ => ⟨by simp, rfl⟩⟩
    · exact ⟨_, rfl, fun h => absurd (.inr (.inl rfl)) h, fun _ => ⟨by simp, rfl⟩⟩
    · exact ⟨_, rfl, fun h => absurd (.inr (.inr rfl)) h, fun _ => ⟨by simp, rfl⟩⟩
  · suffices ∃ t : State, exec i s = .next t ∧ t.ime = s.ime ∧ exec i { s with ime := v } = .next { t with ime := v } by
      obtain ⟨t, ht, hkeeps⟩ := this
      exact ⟨t, ht, fun _ => hkeeps, fun h => absurd h hw⟩
    obtain (hi | _ | x | ⟨op, hi⟩) | hi := writesControl_or_isOrdinary i
    · exact absurd hi hw
    · exact ⟨_, rfl, rfl, rfl⟩
    · exact ⟨_, rfl, rfl, rfl⟩
    · exact ⟨_, exec_illegal hi s, rfl, exec_illegal hi _⟩
    · obtain ⟨t, d, ht⟩ := hi.exec_withControl s
      exact ⟨_, ht s.ime s.mode s.cycleCount, rfl, ht v s.mode s.cycleCount⟩

/-- An instruction adds to the counter what the rest of the state decides, and reads it for nothing. -/
theorem exec_counts (i : Instr) (s : State) : ∃ (t : State) (d : Nat), ∀ n,
    exec i { s with cycleCount := n } = .next { t with cycleCount := n + d } := by
  obtain ((rfl | rfl | rfl) | _ | x | ⟨op, hi⟩) | hi := writesControl_or_isOrdinary i
  · exact ⟨s.setIme false, 0, fun _ => rfl⟩
  · exact ⟨s.setIme true, 0, fun _ => rfl⟩
  · exact ⟨s.returnToStack.setIme true, 12, fun _ => rfl⟩
  · exact ⟨s.setMode .halted, 0, fun _ => rfl⟩
  · exact ⟨s.setMode .stopped, 0, fun _ => rfl⟩
  · exact ⟨s.raiseIllegal op, 0, fun _ => exec_illegal hi _⟩
  · obtain ⟨t, d, ht⟩ := hi.exec_withControl s
    exact ⟨t.withControl s.ime s.mode 0, d, ht s.ime s.mode⟩

theorem exec_cycleCount_le {i : Instr} {s t : State} (h : exec i s = .next t) : s.cycleCount ≤ t.cycleCount := by
  obtain ⟨u, d, hu⟩ := exec_counts i s
  obtain rfl := Host.Outcome.next.inj (h.symm.trans (hu s.cycleCount))
  exact Nat.le_add_right _ _

theorem State.fetchInstr_cycleCount (s : State) : s.cycleCount < s.fetchInstr.2.cycleCount := by
  obtain ⟨accesses, heq, -⟩ := s.fetchInstr_snd
  have hlen : 0 < s.fetchInstr.1.length := by simp [State.fetchInstr]
  rw [heq]
  dsimp only
  omega

/-- What a step can do, by the mode it starts in: the decoder never misses, and a faulted core makes no step
(60_exceptions.md R308, R311). -/
theorem step_cases {s t : State} (h : step s = .next t) :
    (s.mode = .running ∧ ∃ i, decode s.fetchInstr.1 = .ok (i, []) ∧ exec i s.fetchInstr.2 = .next t) ∨
    ((s.mode = .halted ∨ s.mode = .stopped) ∧ t = s.idle) := by
  unfold step at h
  split at h
  case h_1 hm =>
    obtain ⟨i, hi⟩ := decode_fetchInstr s
    simp only [hi] at h
    exact .inl ⟨hm, i, hi, h⟩
  case h_2 hm => exact .inr ⟨.inl hm, (Host.Outcome.next.inj h).symm⟩
  case h_3 hm => exact .inr ⟨.inr hm, (Host.Outcome.next.inj h).symm⟩
  case h_4 => cases h

/-- Settles O21: the fetch or the idle cycle is counted, and the counter is read by nothing. -/
theorem cycleCountOnlyCounts : Obligations.CycleCountOnlyCounts := by
  refine ⟨fun s t h => ?_, fun i s n => ?_⟩
  · obtain ⟨-, i, -, hexec⟩ | ⟨-, rfl⟩ := step_cases h
    · exact Nat.lt_of_lt_of_le s.fetchInstr_cycleCount (exec_cycleCount_le hexec)
    · simp [State.idle_eq]
  · obtain ⟨t, d, ht⟩ := exec_counts i s
    refine ⟨_, ht s.cycleCount, Nat.le_add_right _ _, ?_⟩
    rw [ht n, Nat.add_sub_cancel_left]

theorem halt_not_illegal (op : Byte) : (Instr.halt, op) ∉ Row.illegal := by simp [Row.illegal]

theorem stop_not_illegal (x op : Byte) : (Instr.stop x, op) ∉ Row.illegal := by simp [Row.illegal]

/-- Settles O23: an ordinary instruction leaves the mode, and so do DI, EI and RETI. -/
theorem modeWriters : Obligations.ModeWriters := by
  intro i s
  by_cases hhalt : i = .halt
  · subst hhalt
    exact ⟨_, rfl, fun _ => rfl, by simp, fun op h => absurd h (halt_not_illegal op), fun h => absurd rfl h⟩
  by_cases hstop : ∃ x, i = .stop x
  · obtain ⟨x, rfl⟩ := hstop
    exact ⟨_, rfl, nofun, fun _ => rfl, fun op h => absurd h (stop_not_illegal x op), fun _ h => absurd rfl (h x)⟩
  by_cases hill : ∃ op, (i, op) ∈ Row.illegal
  · obtain ⟨op, hop⟩ := hill
    refine ⟨_, exec_illegal hop s, fun h => absurd h hhalt, fun h => absurd h hstop, fun op' hop' => ?_,
      fun _ _ h => absurd hop (h op)⟩
    rw [Host.Outcome.next.inj ((exec_illegal hop s).symm.trans (exec_illegal hop' s))]
    rfl
  · suffices ∃ t, exec i s = .next t ∧ t.mode = s.mode by
      obtain ⟨t, ht, hmode⟩ := this
      exact ⟨t, ht, fun h => absurd h hhalt, fun h => absurd h hstop, fun op h => absurd ⟨op, h⟩ hill,
        fun _ _ _ => hmode⟩
    obtain ((rfl | rfl | rfl) | _ | x | ⟨op, hi⟩) | hi := writesControl_or_isOrdinary i
    · exact ⟨s.setIme false, rfl, rfl⟩
    · exact ⟨s.setIme true, rfl, rfl⟩
    · exact ⟨s.returnToStack.setIme true, rfl, by rw [State.setIme_mode, State.returnToStack_eq]⟩
    · exact absurd rfl hhalt
    · exact absurd ⟨x, rfl⟩ hstop
    · exact absurd ⟨_, hi⟩ hill
    · obtain ⟨t, d, ht⟩ := hi.exec_withControl s
      exact ⟨_, ht s.ime s.mode s.cycleCount, rfl⟩

end Sys2Proof.Machine
end

section
/-! The state after power-on, and the invariant every step keeps (10_state.md R23, R38). -/

namespace Sys2Proof.Machine

/-! ### The low nibble of F -/

theorem Micro.keeps_lowNibble {s t : State} (h : Micro s t) (hs : s.f &&& 0x0F = 0) : t.f &&& 0x0F = 0 := by
  cases h with
  | writeF v => exact masked_lowNibble v
  | setReg8 r v => simpa using hs
  | setSp | setPc | setIme | setMode | internal | read | write => exact hs

theorem Micros.keeps_lowNibble {s t : State} (h : Micros s t) (hs : s.f &&& 0x0F = 0) : t.f &&& 0x0F = 0 :=
  h.keeps (fun u => u.f &&& 0x0F = 0) (fun _ _ => Micro.keeps_lowNibble) hs

/-- The low nibble of a word is that of its low byte. -/
theorem mkWord_lowNibble (hi lo : Byte) : (mkWord hi lo &&& 0x000F).toNat = (lo &&& 0x0F).toNat := by
  have low (x : Nat) : x &&& 15 = x % 16 := Nat.and_two_pow_sub_one_eq_mod x 4
  have word : (0x000F : Word).toNat = 15 := rfl
  have byte : (0x0F : Byte).toNat = 15 := rfl
  rw [BitVec.toNat_and, BitVec.toNat_and, word, byte, low, low, toNat_mkWord]
  omega

theorem toNat_masked (v : Byte) : (v &&& 0xF0).toNat = v.toNat - v.toNat % 16 := by
  revert v; decide

/-- Settles O18: each primitive operation keeps the low nibble, since only a write of F writes it. -/
theorem lowNibbleOfFIsZero : Obligations.LowNibbleOfFIsZero := by
  refine ⟨fun s => ?_, fun _ _ => rfl, fun s w => ?_, fun i s hs => ?_⟩
  · have hF : s.readF &&& 0x0F = 0 := masked_lowNibble s.f
    refine ⟨hF, BitVec.eq_of_toNat_eq ?_⟩
    rw [State.af, mkWord_lowNibble, hF]
    rfl
  · rw [State.setStackPair_f, if_pos rfl, toNat_masked, toNat_loByte]
    omega
  · obtain ⟨t, ht, hsteps⟩ := exec_micros i s
    exact ⟨t, ht, hsteps.keeps_lowNibble hs⟩

/-! ### The invariant -/

theorem Micro.keeps_memoryCanonical {s t : State} (h : Micro s t) (hs : s.bus.mem.wf = true) :
    t.bus.mem.wf = true := by
  cases h with
  | write addr v => exact Bus.wf_write addr v hs
  | setReg8 r v => simpa using hs
  | writeF | setSp | setPc | setIme | setMode | internal | read => exact hs

theorem Micros.keeps_memoryCanonical {s t : State} (h : Micros s t) (hs : s.bus.mem.wf = true) :
    t.bus.mem.wf = true :=
  h.keeps (fun u => u.bus.mem.wf = true) (fun _ _ => Micro.keeps_memoryCanonical) hs

/-- A running instruction that ends in an error is an illegal byte's, fetched just before PC. -/
theorem exec_faulted {i : Instr} {s t : State} {err : CoreError} (h : exec i s = .next t) (hs : s.mode = .running)
    (ht : t.mode = .faulted err) : ∃ op ∈ illegalBytes, err = .illegalOpcode op (t.pc - 1) := by
  by_cases hill : ∃ op, (i, op) ∈ Row.illegal
  · obtain ⟨op, hop⟩ := hill
    obtain rfl := Host.Outcome.next.inj ((exec_illegal hop s).symm.trans h)
    exact ⟨op, List.mem_map_of_mem hop, (Mode.faulted.inj ht).symm⟩
  · obtain ⟨u, hu, hhalt, hstop, -, hkeeps⟩ := modeWriters i s
    obtain rfl := Host.Outcome.next.inj (hu.symm.trans h)
    exfalso
    by_cases hi : i = .halt
    · simp [hhalt hi] at ht
    by_cases hx : ∃ x, i = .stop x
    · simp [hstop hx] at ht
    · rw [hkeeps hi (fun x h => hx ⟨x, h⟩) (fun op h => hill ⟨op, h⟩), hs] at ht
      cases ht

theorem State.fetchInstr_mode (s : State) : s.fetchInstr.2.mode = s.mode := by
  obtain ⟨accesses, heq, -⟩ := s.fetchInstr_snd
  rw [heq]

theorem State.idle_not_faulted {s : State} (hs : s.mode = .halted ∨ s.mode = .stopped) (err : CoreError) :
    s.idle.mode ≠ .faulted err := by
  rw [State.idle_eq]
  dsimp only
  split
  · nofun
  · obtain hs | hs := hs <;> simp [hs]

/-- Settles O17: the nibble and the memory by the primitive operations, the errors by the modes a step can end in. -/
theorem stepKeepsInvariant : Obligations.StepKeepsInvariant := by
  intro s t hs h
  refine ⟨(step_micros h).keeps_lowNibble hs.lowNibbleZero, (step_micros h).keeps_memoryCanonical hs.memoryCanonical,
    fun err herr => ?_⟩
  obtain ⟨hrun, i, -, hexec⟩ | ⟨hidle, rfl⟩ := step_cases h
  · exact exec_faulted hexec (s.fetchInstr_mode.trans hrun) herr
  · exact absurd herr (State.idle_not_faulted hidle err)

/-! ### Power-on -/

/-- Settles O15: the fields as they stand, and an empty memory with no window. -/
theorem resetState : Obligations.ResetState := by
  refine ⟨fun r => ?_, rfl, rfl, rfl, rfl, rfl, rfl, rfl, fun p hp => ?_, fun _ => ⟨rfl, rfl⟩⟩
  · cases r <;> rfl
  · cases p with
    | bc | de | hl => rfl
    | sp => exact absurd rfl hp

/-- Settles O16: F and memory are empty, and the machine runs. -/
theorem resetSatisfiesInvariant : Obligations.ResetSatisfiesInvariant where
  lowNibbleZero := rfl
  memoryCanonical := rfl
  onlyIllegalFaults := nofun

end Sys2Proof.Machine
end

section
/-! The bus port, and memory as the last write leaves it (20_memory.md R51 to R66). -/

namespace Sys2Proof.Machine

open Sys2Proof.Claim

/-! ### Every byte of RAM is the last one written there -/

/-- The accesses (newest first) between two states of a bus that is all RAM: a byte is the last one written there, and a
read answered what the accesses before it left. -/
structure Bus.HoldsLastWrites (before after : Bus) (accesses : List BusAccess) : Prop where
  ram : ∀ a, after.kindAt a = .ram
  trace : after.trace = accesses ++ before.trace
  bytes : ∀ a : Word, after.mem.read a.toNat = (lastWrite a accesses).getD (before.mem.read a.toNat)
  reads : ∀ newer older a v, accesses = newer ++ .read a v :: older →
    v = (lastWrite a older).getD (before.mem.read a.toNat)

theorem Bus.HoldsLastWrites.refl {b : Bus} (hram : ∀ a, b.kindAt a = .ram) : b.HoldsLastWrites b [] where
  ram := hram
  trace := rfl
  bytes _ := rfl
  reads := by simp

theorem Bus.HoldsLastWrites.read {b b' : Bus} {accesses : List BusAccess} (h : b.HoldsLastWrites b' accesses)
    (addr : Word) : b.HoldsLastWrites (b'.read addr).2 (.read addr (b'.read addr).1 :: accesses) where
  ram := h.ram
  trace := congrArg _ h.trace
  bytes := h.bytes
  reads newer older a v heq := by
    cases newer with
    | nil =>
      simp only [List.nil_append, List.cons.injEq, BusAccess.read.injEq] at heq
      obtain ⟨⟨rfl, rfl⟩, rfl⟩ := heq
      rw [Bus.read_fst _ _ (by simp [h.ram]), h.bytes]
    | cons _ newer => exact h.reads newer older a v (List.cons.inj heq).2

theorem Bus.HoldsLastWrites.write {b b' : Bus} {accesses : List BusAccess} (h : b.HoldsLastWrites b' accesses)
    (addr : Word) (v : Byte) : b.HoldsLastWrites (b'.write addr v) (.write addr v :: accesses) where
  ram := h.ram
  trace := congrArg _ h.trace
  bytes a := by
    rw [Bus.write_mem, if_pos (h.ram addr), Memory.read_write, lastWrite]
    by_cases ha : addr = a
    · simp [ha]
    · simp [ha, Ne.symm ha, BitVec.toNat_inj, h.bytes]
  reads newer older a w heq := by
    cases newer with
    | nil => cases heq
    | cons _ newer => exact h.reads newer older a w (List.cons.inj heq).2

/-- A primitive operation makes one access at most. -/
theorem Micro.bus_cases {s t : State} (h : Micro s t) :
    t.bus = s.bus ∨ (∃ addr, t.bus = (s.bus.read addr).2) ∨ ∃ addr v, t.bus = s.bus.write addr v := by
  cases h with
  | read addr => exact .inr (.inl ⟨addr, rfl⟩)
  | write addr v => exact .inr (.inr ⟨addr, v, rfl⟩)
  | setReg8 r v => exact .inl (State.setReg8_bus s r v)
  | writeF | setSp | setPc | setIme | setMode | internal => exact .inl rfl

theorem Micro.keeps_holdsLastWrites {b : Bus} {s t : State} (h : Micro s t)
    (hs : ∃ accesses, b.HoldsLastWrites s.bus accesses) : ∃ accesses, b.HoldsLastWrites t.bus accesses := by
  obtain ⟨accesses, hs⟩ := hs
  obtain heq | ⟨addr, heq⟩ | ⟨addr, v, heq⟩ := h.bus_cases
  · exact ⟨_, heq ▸ hs⟩
  · exact ⟨_, heq ▸ hs.read addr⟩
  · exact ⟨_, heq ▸ hs.write addr v⟩

theorem Micros.holdsLastWrites {s t : State} (h : Micros s t) (hram : ∀ a, s.bus.kindAt a = .ram) :
    ∃ accesses, s.bus.HoldsLastWrites t.bus accesses :=
  h.keeps (fun u => ∃ accesses, s.bus.HoldsLastWrites u.bus accesses) (fun _ _ => Micro.keeps_holdsLastWrites)
    ⟨[], .refl hram⟩

/-- Settles O24: a step is a sequence of primitive operations, each with one access at most. -/
theorem memoryHoldsLastWrite : Obligations.MemoryHoldsLastWrite := by
  intro s t hram hstep
  obtain ⟨accesses, h⟩ := (step_micros hstep).holdsLastWrites hram
  exact ⟨accesses, h.trace, h.bytes, h.reads⟩

/-! ### The port -/

theorem State.memRead_accesses (s : State) (addr : Word) :
    Accesses s (s.memRead addr).2 [.read addr (s.memRead addr).1] := ⟨rfl, rfl⟩

theorem State.memWrite_accesses (s : State) (addr : Word) (v : Byte) :
    Accesses s (s.memWrite addr v) [.write addr v] := ⟨rfl, rfl⟩

theorem State.memWrite_storesByte (s : State) (addr : Word) (v : Byte) :
    StoresByte s (s.memWrite addr v) addr v :=
  ⟨by simp [State.memWrite_byteAt], fun a ha => by simp [State.memWrite_byteAt, ha]⟩

/-- Settles O25: a read only records, and a write stores where the address is RAM. -/
theorem busContract : Obligations.BusContract := fun s a v =>
  ⟨rfl, s.memRead_byteAt a, s.memRead_accesses a, s.bus.read_fst a, rfl, s.memWrite_storesByte a v,
    s.memWrite_accesses a v⟩

end Sys2Proof.Machine
end

section
/-! What the encoder writes, the decoder reads, and nothing is left over (30_encoding.md R80, R81, R90). -/

namespace Sys2Proof

open Machine (mkWord hiByte loByte mkWord_hiByte_loByte operandBytesOf formOf_isSome)

/-! ### One equation for each format -/

theorem decode_op {op : Byte} {i : Instr} (hf : formOf op = some (.op i)) (rest : List Byte) :
    decode (op :: rest) = .ok (i, rest) := by
  simp only [decode, hf]

theorem decode_byte {op : Byte} {mk : Byte → Instr} (hf : formOf op = some (.byte mk)) (n : Byte) (rest : List Byte) :
    decode (op :: n :: rest) = .ok (mk n, rest) := by
  simp only [decode, hf]

theorem decode_word {op : Byte} {mk : Word → Instr} (hf : formOf op = some (.word mk)) (nn : Word)
    (rest : List Byte) : decode (op :: loByte nn :: hiByte nn :: rest) = .ok (mk nn, rest) := by
  simp only [decode, hf, mkWord_hiByte_loByte]

theorem decode_cb {cbop : Byte} {i : Instr} (hi : decodeCb cbop = i) (rest : List Byte) :
    decode (0xCB :: cbop :: rest) = .ok (i, rest) := by
  subst hi; rfl

/-! ### The fields of a CB byte -/

@[simp] theorem fieldX_fieldsByte (x : BitVec 2) (y z : BitVec 3) : fieldX (fieldsByte x y z) = x := by
  revert x y z; decide

@[simp] theorem fieldY_fieldsByte (x : BitVec 2) (y z : BitVec 3) : fieldY (fieldsByte x y z) = y := by
  revert x y z; decide

@[simp] theorem fieldZ_fieldsByte (x : BitVec 2) (y z : BitVec 3) : fieldZ (fieldsByte x y z) = z := by
  revert x y z; decide

/-- The index of an operand in a `z` field (30_encoding.md R84). -/
def locIndex : Loc8 → BitVec 3
  | .reg r => regIndex r
  | .atHl => 6

/-- The index of an operation in the rotate field `y` (30_encoding.md R89). -/
def rotIndex : RotOp → BitVec 3
  | .rlc => 0
  | .rrc => 1
  | .rl => 2
  | .rr => 3
  | .sla => 4
  | .sra => 5
  | .swap => 6
  | .srl => 7

@[simp] theorem locOfIndex_locIndex (z : Loc8) : locOfIndex (locIndex z) = z := by
  rcases z with r | _
  · cases r <;> rfl
  · rfl

@[simp] theorem rotOfIndex_rotIndex (op : RotOp) : rotOfIndex (rotIndex op) = op := by cases op <;> rfl

theorem decodeCb_rot (op : RotOp) (z : Loc8) :
    decodeCb (fieldsByte 0 (rotIndex op) (locIndex z)) = Row.rot op z := by
  simp [decodeCb]

theorem decodeCb_bit (b : BitVec 3) (z : Loc8) : decodeCb (fieldsByte 1 b (locIndex z)) = Row.bit b z := by
  simp [decodeCb]

theorem decodeCb_res (b : BitVec 3) (z : Loc8) : decodeCb (fieldsByte 2 b (locIndex z)) = Row.res b z := by
  simp [decodeCb]

theorem decodeCb_set (b : BitVec 3) (z : Loc8) : decodeCb (fieldsByte 3 b (locIndex z)) = Row.set b z := by
  simp [decodeCb]

theorem encode_rot (op : RotOp) (z : Loc8) :
    encode (Row.rot op z) = [0xCB, fieldsByte 0 (rotIndex op) (locIndex z)] := by
  cases op <;> cases z <;> rfl

theorem encode_bit (b : BitVec 3) (z : Loc8) : encode (Row.bit b z) = [0xCB, fieldsByte 1 b (locIndex z)] := by
  cases z <;> rfl

theorem encode_res (b : BitVec 3) (z : Loc8) : encode (Row.res b z) = [0xCB, fieldsByte 2 b (locIndex z)] := by
  cases z <;> rfl

theorem encode_set (b : BitVec 3) (z : Loc8) : encode (Row.set b z) = [0xCB, fieldsByte 3 b (locIndex z)] := by
  cases z <;> rfl

/-! ### The instructions -/

/-- A well-formed instruction is read back from its bytes, whatever follows them. -/
theorem decode_encode {i : Instr} (hi : i.wellFormed = true) (rest : List Byte) :
    decode (encode i ++ rest) = .ok (i, rest) := by
  cases i.isRow with
  | prefixCb cbop => cases hi
  -- the CB rows
  | rot op z => rw [encode_rot]; exact decode_cb (decodeCb_rot op z) rest
  | bit b z => rw [encode_bit]; exact decode_cb (decodeCb_bit b z) rest
  | res b z => rw [encode_res]; exact decode_cb (decodeCb_res b z) rest
  | set b z => rw [encode_set]; exact decode_cb (decodeCb_set b z) rest
  -- the rows with an operand word
  | ldPairD16 p nn => cases p <;> exact decode_word rfl nn rest
  | jpCc cc nn => cases cc <;> exact decode_word rfl nn rest
  | callCc cc nn => cases cc <;> exact decode_word rfl nn rest
  | ldAtA16Sp nn | jpA16 nn | callA16 nn | ldAtA16A nn | ldAAtA16 nn => exact decode_word rfl nn rest
  -- the rows with an operand byte
  | ldRD8 dst n => cases dst <;> exact decode_byte rfl n rest
  | jrCc cc e => cases cc <;> exact decode_byte rfl e rest
  | stop n | jrE8 n | ldAtHlD8 n | ldhAtA8A n | addSpE8 n | ldhAAtA8 n | ldHlSpE8 n => exact decode_byte rfl n rest
  -- the rows of one byte
  | ldRR dst src => cases dst <;> cases src <;> exact decode_op rfl rest
  | ldRAtHl r | ldAtHlR r => cases r <;> exact decode_op rfl rest
  | inc8 z | dec8 z =>
    rcases z with r | _
    · cases r <;> exact decode_op rfl rest
    · exact decode_op rfl rest
  | alu op src =>
    rcases src with r | _ | n
    · cases op <;> cases r <;> exact decode_op rfl rest
    · cases op <;> exact decode_op rfl rest
    · cases op <;> exact decode_byte rfl n rest
  | incPair p | decPair p | addHlPair p | push p | pop p => cases p <;> exact decode_op rfl rest
  | retCc cc => cases cc <;> exact decode_op rfl rest
  | rst hrow =>
    have every : ∀ row ∈ Row.rst, decode (encode row.1 ++ rest) = .ok (row.1, rest) := by
      simp only [Row.rst, List.forall_mem_cons, List.not_mem_nil, false_implies, implies_true, and_true]
      and_intros <;> exact decode_op rfl rest
    exact every _ hrow
  | illegal hrow =>
    have every : ∀ row ∈ Row.illegal, decode (encode row.1 ++ rest) = .ok (row.1, rest) := by
      simp only [Row.illegal, List.forall_mem_cons, List.not_mem_nil, false_implies, implies_true, and_true]
      and_intros <;> exact decode_op rfl rest
    exact every _ hrow
  | nop | ldAtBcA | rlca | ldAAtBc | rrca | ldAtDeA | rla | ldAAtDe | rra | ldAtHlIncA | daa | ldAAtHlInc | cpl
  | ldAtHlDecA | scf | ldAAtHlDec | ccf | halt | ret | reti | ldAtCA | jpHl | ldAAtC | di | ldSpHl | ei =>
    exact decode_op rfl rest

/-- The bytes that follow the first one are as many as it fixes. -/
theorem length_of_decode {op : Byte} {bytes rest : List Byte} {i : Instr} (h : decode (op :: bytes) = .ok (i, rest)) :
    bytes.length = operandBytesOf op + rest.length := by
  obtain ⟨form, hform⟩ := formOf_isSome op
  simp only [decode, hform] at h
  simp only [operandBytesOf, hform]
  cases form with
  | op i => cases h; exact (Nat.zero_add _).symm
  | byte | cb =>
    rcases bytes with _ | ⟨n, bytes⟩
    · cases h
    · cases h; exact Nat.add_comm _ 1
  | word mk =>
    rcases bytes with _ | ⟨lo, _ | ⟨hi, bytes⟩⟩
    · cases h
    · cases h
    · cases h; exact Nat.add_comm _ 2

/-- The first byte of an encoding fixes how many there are (30_encoding.md R80). -/
theorem exists_encode_eq_cons {i : Instr} (hi : i.wellFormed = true) :
    ∃ op operands, encode i = op :: operands ∧ operands.length = operandBytesOf op := by
  have hdecode := decode_encode hi []
  rw [List.append_nil] at hdecode
  cases hbytes : encode i with
  | nil => rw [hbytes] at hdecode; cases hdecode
  | cons op operands => exact ⟨op, operands, rfl, length_of_decode (hbytes ▸ hdecode)⟩

end Sys2Proof
end

section
/-! A step where memory holds an instruction (20_memory.md R58, R63, R65). -/

namespace Sys2Proof.Machine

theorem step_running {s : State} {i : Instr} {rest : List Byte} (hs : s.mode = .running)
    (hi : decode s.fetchInstr.1 = .ok (i, rest)) : step s = exec i s.fetchInstr.2 := by
  simp only [step, hs, hi]

theorem State.fetchInstr_eq (s : State) : s.fetchInstr = s.fetchBytes (operandBytesOf s.fetch8.1 + 1) := rfl

/-- A running step that fetches the bytes of an instruction executes it, in the state the fetch leaves. -/
theorem step_of_fetchBytes {s : State} {i : Instr} (hs : s.mode = .running) (hi : i.wellFormed = true)
    (hbytes : (s.fetchBytes (encode i).length).1 = encode i) :
    step s = exec i (s.fetchBytes (encode i).length).2 := by
  obtain ⟨op, operands, hencode, hlen⟩ := exists_encode_eq_cons hi
  have hop : s.fetch8.1 = op := by
    rw [hencode] at hbytes
    exact (List.cons.inj hbytes).1
  have hfetch : s.fetchInstr = s.fetchBytes (encode i).length := by
    rw [State.fetchInstr_eq, hop, hencode, List.length_cons, hlen]
  have hdecode : decode s.fetchInstr.1 = .ok (i, []) := by
    rw [hfetch, hbytes]
    simpa using decode_encode hi []
  rw [step_running hs hdecode, hfetch]

theorem add_one_add_ofNat (a : Word) (k : Nat) : a + 1#16 + BitVec.ofNat 16 k = a + BitVec.ofNat 16 (k + 1) := by
  rw [BitVec.add_assoc, BitVec.ofNat_add k 1, BitVec.add_comm (BitVec.ofNat 16 k)]

/-- Memory holds these bytes from an address on, all of them in RAM. -/
def Bus.HoldsInRam (b : Bus) (a : Word) (bytes : List Byte) : Prop :=
  ∀ k, (hk : k < bytes.length) →
    b.kindAt (a + BitVec.ofNat 16 k) = .ram ∧ b.mem.read (a + BitVec.ofNat 16 k).toNat = bytes[k]

/-- The reads that fetch these bytes from an address on, in order. -/
def fetchReads (a : Word) (bytes : List Byte) : List BusAccess :=
  (List.finRange bytes.length).map fun k => .read (a + BitVec.ofNat 16 k.val) bytes[k]

theorem fetchReads_cons (a : Word) (v : Byte) (bytes : List Byte) :
    fetchReads a (v :: bytes) = .read a v :: fetchReads (a + 1#16) bytes := by
  simp [fetchReads, List.finRange_succ, Function.comp_def, add_one_add_ofNat]

theorem Bus.holdsInRam_cons {b : Bus} {a : Word} {v : Byte} {bytes : List Byte} (h : b.HoldsInRam a (v :: bytes)) :
    (b.read a).1 = v ∧ (b.read a).2.HoldsInRam (a + 1#16) bytes := by
  constructor
  · obtain ⟨hkind, hbyte⟩ := h 0 (by simp)
    rw [BitVec.add_zero] at hkind hbyte
    rw [Bus.read_fst _ _ (by simp [hkind]), hbyte]
    rfl
  · intro k hk
    rw [add_one_add_ofNat]
    exact h (k + 1) (by simpa using hk)

/-- Everything the fetch of bytes that RAM holds does. -/
theorem State.fetchBytes_of_holdsInRam {bytes : List Byte} {s : State} (h : s.bus.HoldsInRam s.pc bytes) :
    s.fetchBytes bytes.length = (bytes,
      { s with pc := s.pc + BitVec.ofNat 16 bytes.length
               cycleCount := s.cycleCount + 4 * bytes.length
               bus := { s.bus with trace := (fetchReads s.pc bytes).reverse ++ s.bus.trace } }) := by
  induction bytes generalizing s with
  | nil => simp [State.fetchBytes, fetchReads]
  | cons v bytes ih =>
    obtain ⟨hv, hrest⟩ := Bus.holdsInRam_cons h
    have hcycles : s.cycleCount + 4 + 4 * bytes.length = s.cycleCount + 4 * (bytes.length + 1) := by omega
    rw [List.length_cons, State.fetchBytes, ih (s := s.fetch8.2) hrest, State.fetch8_eq]
    simp [fetchReads_cons, add_one_add_ofNat, hcycles, hv]

/-- Settles O9: the fetch reads what RAM holds, and what it reads decodes. -/
theorem stepFetchesFromMemory : Obligations.StepFetchesFromMemory := by
  intro s i hs hi hbytes
  have hfetch := State.fetchBytes_of_holdsInRam (s := s) (bytes := encode i) hbytes
  rw [step_of_fetchBytes hs hi (by rw [hfetch]), hfetch]
  rfl

end Sys2Proof.Machine
end

section
/-! Encoding inverts decoding (30_encoding.md R81, R92, R95). -/

namespace Sys2Proof

open Machine (mkWord loByte hiByte loByte_mkWord hiByte_mkWord formOf_isSome decodeCb_cases)

/-- Settles O2: `decode_encode` goes through the rows of each rule. -/
theorem decodeInvertsEncode : Obligations.DecodeInvertsEncode := fun _ rest hi => decode_encode hi rest

/-! ### The main table -/

/-- The encoder writes what an entry of the main table selects as the entry's byte and the operand bytes of its
format. -/
def Form.Writes (op : Byte) : Form → Prop
  | .op i => encode i = [op]
  | .byte mk => ∀ n, encode (mk n) = [op, n]
  | .word mk => ∀ nn, encode (mk nn) = [op, loByte nn, hiByte nn]
  | .cb => op = 0xCB

/-- Every entry of the main opcode map stands at its own byte (30_encoding.md R95). -/
theorem mainTable_writes : ∀ entry ∈ mainTable.zipIdx, entry.1.Writes (BitVec.ofNat 8 entry.2) := by
  simp only [mainTable, List.zipIdx_append, List.forall_mem_append, List.length_append]
  simp only [mainRow0, mainRow1, mainRow2, mainRow3, mainRow4, mainRow5, mainRow6, mainRow7, mainRow8, mainRow9,
    mainRowA, mainRowB, mainRowC, mainRowD, mainRowE, mainRowF, List.length_cons, List.length_nil, Nat.reduceAdd,
    List.zipIdx_cons, List.zipIdx_nil, List.forall_mem_cons, List.not_mem_nil, false_implies, implies_true, and_true,
    Form.Writes]
  and_intros <;> intros <;> rfl

theorem formOf_writes {op : Byte} {form : Form} (hform : formOf op = some form) : form.Writes op := by
  have hentry : (form, op.toNat) ∈ mainTable.zipIdx := List.mem_zipIdx_iff_getElem?.mpr hform
  simpa using mainTable_writes _ hentry

/-! ### The CB table -/

@[simp] theorem fieldsByte_fields (op : Byte) : fieldsByte (fieldX op) (fieldY op) (fieldZ op) = op := by
  revert op; decide

@[simp] theorem locIndex_locOfIndex (z : BitVec 3) : locIndex (locOfIndex z) = z := by
  revert z; decide

@[simp] theorem rotIndex_rotOfIndex (y : BitVec 3) : rotIndex (rotOfIndex y) = y := by
  revert y; decide

theorem encode_decodeCb (cbop : Byte) : encode (decodeCb cbop) = [0xCB, cbop] := by
  obtain ⟨x, y, z, rfl⟩ : ∃ x y z, fieldsByte x y (locIndex z) = cbop :=
    ⟨fieldX cbop, fieldY cbop, locOfIndex (fieldZ cbop), by simp⟩
  have groups : ∀ x : BitVec 2, x = 0 ∨ x = 1 ∨ x = 2 ∨ x = 3 := by decide
  obtain rfl | rfl | rfl | rfl := groups x
  · rw [← rotIndex_rotOfIndex y, decodeCb_rot, encode_rot]
  · rw [decodeCb_bit, encode_bit]
  · rw [decodeCb_res, encode_res]
  · rw [decodeCb_set, encode_set]

theorem wellFormed_decodeCb (cbop : Byte) : (decodeCb cbop).wellFormed = true := by
  obtain ⟨op, z, hrow⟩ | ⟨b, z, hrow⟩ | ⟨b, z, hrow⟩ | ⟨b, z, hrow⟩ := decodeCb_cases cbop
  · rw [hrow]; cases op <;> cases z <;> rfl
  all_goals rw [hrow]; cases z <;> rfl

/-! ### The instructions -/

/-- What decodes is written back as the bytes it was read from. -/
theorem encode_of_decode {bytes rest : List Byte} {i : Instr} (h : decode bytes = .ok (i, rest)) :
    encode i ++ rest = bytes := by
  rcases bytes with _ | ⟨op, operands⟩
  · cases h
  obtain ⟨form, hform⟩ := formOf_isSome op
  have hwrites := formOf_writes hform
  simp only [decode, hform] at h
  cases form with
  | op i =>
    cases h
    rw [show encode i = [op] from hwrites, List.singleton_append]
  | byte mk =>
    rcases operands with _ | ⟨n, operands⟩
    · cases h
    · cases h
      rw [hwrites n]; rfl
  | word mk =>
    rcases operands with _ | ⟨lo, _ | ⟨hi, operands⟩⟩
    · cases h
    · cases h
    · cases h
      rw [hwrites (mkWord hi lo), loByte_mkWord, hiByte_mkWord]; rfl
  | cb =>
    obtain rfl : op = 0xCB := hwrites
    rcases operands with _ | ⟨cbop, operands⟩
    · cases h
    · cases h
      rw [encode_decodeCb]; rfl

theorem exists_prefixCb_of_not_wellFormed {i : Instr} (hi : ¬ i.wellFormed = true) : ∃ cbop, i = .prefixCb cbop := by
  unfold Instr.wellFormed at hi
  split at hi
  · exact ⟨_, rfl⟩
  · exact absurd rfl hi

/-- The one ill-formed row is never read: its bytes are those of the CB instruction the second one selects
(48_system.md R283). -/
theorem wellFormed_of_decode {bytes rest : List Byte} {i : Instr} (h : decode bytes = .ok (i, rest)) :
    i.wellFormed = true := by
  by_contra hill
  obtain ⟨cbop, rfl⟩ := exists_prefixCb_of_not_wellFormed hill
  have hbytes : 0xCB :: cbop :: rest = bytes := encode_of_decode h
  rw [← hbytes, decode_cb rfl] at h
  obtain ⟨hrow, -⟩ := Prod.mk.inj (Except.ok.inj h)
  exact hill (hrow ▸ wellFormed_decodeCb cbop)

/-- Settles O3: by the format of the first byte's entry, each of which the encoder writes at that byte. -/
theorem encodeInvertsDecode : Obligations.EncodeInvertsDecode :=
  fun _ _ _ h => ⟨wellFormed_of_decode h, encode_of_decode h⟩

end Sys2Proof
end

section
/-! What the first byte decides: that an instruction begins there, how long it is, and whether it is illegal
(30_encoding.md R80, R92, R101). -/

namespace Sys2Proof

open Machine (operandBytesOf formOf_isSome decode_exact exec_illegal)
open Claim (TotalCycles)

/-- Settles O1: the decoder evaluates on each of the words. -/
theorem writtenWordsDecode : Obligations.WrittenWordsDecode := by
  unfold Obligations.WrittenWordsDecode
  and_intros <;> rfl

/-! ### Lengths -/

theorem operandBytesOf_le_two (op : Byte) : operandBytesOf op ≤ 2 := by
  obtain ⟨form, hform⟩ := formOf_isSome op
  simp only [operandBytesOf, hform]
  cases form <;> simp [Form.operandBytes]

theorem encode_length (i : Instr) : (encode i).length = i.length := by
  cases i <;> rfl

theorem encode_length_of_decode {op : Byte} {operands rest : List Byte} {i : Instr}
    (h : decode (op :: operands) = .ok (i, rest)) : (encode i).length = operandBytesOf op + 1 := by
  have hlen := congrArg List.length (encode_of_decode h)
  rw [List.length_append, List.length_cons, length_of_decode h] at hlen
  omega

/-- Bytes after an instruction change nothing but what is left over. -/
theorem decode_append {bytes rest : List Byte} {i : Instr} (h : decode bytes = .ok (i, rest)) (more : List Byte) :
    decode (bytes ++ more) = .ok (i, rest ++ more) := by
  rw [← encode_of_decode h, List.append_assoc, decode_encode (wellFormed_of_decode h)]

/-- Settles O4: of any two bytes after the first, its row takes as many as it has operand bytes. -/
theorem decodeNeverMisses : Obligations.DecodeNeverMisses := by
  intro op x y more
  have hle := operandBytesOf_le_two op
  have htake : ((x :: y :: more).take (operandBytesOf op)).length = operandBytesOf op := by
    rw [List.length_take, List.length_cons, List.length_cons]
    omega
  obtain ⟨i, hi⟩ := decode_exact op _ htake
  refine ⟨i, (x :: y :: more).drop (operandBytesOf op), ?_⟩
  simpa using decode_append hi ((x :: y :: more).drop (operandBytesOf op))

/-- Settles O6: an encoding is one byte longer than the operand bytes its first byte fixes. -/
theorem firstByteFixesLength : Obligations.FirstByteFixesLength := by
  intro op xs ys rest rest' i j hi hj
  have hlen := encode_length_of_decode hi
  have hle := operandBytesOf_le_two op
  rw [encode_length_of_decode hj, ← encode_length i, hlen]
  refine ⟨rfl, rfl, by omega, by omega, ?_, ?_⟩
  · rintro rfl; rfl
  · rintro rfl; rfl

/-! ### Illegal bytes -/

theorem illegal_row : ∀ row ∈ Row.illegal, row.1.wellFormed = true ∧ encode row.1 = [row.2] := by decide

/-- Settles O5: the rows of the eleven bytes decode and raise; what another byte begins is none of them, because its
encoding begins with that byte. -/
theorem illegalBytesAreExactlyEleven : Obligations.IllegalBytesAreExactlyEleven := by
  intro op bytes
  constructor
  · intro hop
    obtain ⟨⟨i, _⟩, hrow, rfl⟩ : ∃ row ∈ Row.illegal, row.2 = op := List.mem_map.mp hop
    obtain ⟨hi, hencode⟩ := illegal_row _ hrow
    refine ⟨i, hrow, hencode, ?_, fun s => ⟨_, exec_illegal hrow s, rfl, ?_⟩⟩
    · simpa [hencode] using decode_encode hi bytes
    · simp [TotalCycles, hencode, Machine.State.raiseIllegal]
  · intro hop i rest hdecode b hrow
    obtain ⟨-, hencode⟩ := illegal_row _ hrow
    have hbytes := encode_of_decode hdecode
    rw [hencode] at hbytes
    obtain ⟨rfl, -⟩ := List.cons.inj hbytes
    exact hop (List.mem_map_of_mem (f := Prod.snd) hrow)

end Sys2Proof
end

section
/-! A step where the bus answers an instruction (30_encoding.md R91, 20_memory.md R58). -/

namespace Sys2Proof.Machine

open Claim (busReads)

/-- Everything a fetch of `n` bytes does, on any bus. -/
theorem State.fetchBytes_eq (s : State) (n : Nat) :
    s.fetchBytes n = ((busReads s.bus s.pc n).1,
      { s with pc := s.pc + BitVec.ofNat 16 n
               cycleCount := s.cycleCount + 4 * n
               bus := (busReads s.bus s.pc n).2 }) := by
  induction n generalizing s with
  | zero => simp [State.fetchBytes, busReads]
  | succ n ih =>
    have hcycles : s.cycleCount + 4 + 4 * n = s.cycleCount + 4 * (n + 1) := by omega
    simp [State.fetchBytes, busReads, ih, State.fetch8_eq, add_one_add_ofNat, hcycles]

/-- Settles O8: the fetch makes the reads of the bus, and what they answer decodes. -/
theorem stepRunsDecodedInstruction : Obligations.StepRunsDecodedInstruction := by
  intro s i bus hs hi hreads
  have hfetch := s.fetchBytes_eq (encode i).length
  rw [hreads] at hfetch
  rw [step_of_fetchBytes hs hi (by rw [hfetch]), hfetch]

end Sys2Proof.Machine
end

section
/-! What a data instruction leaves as it was, said once and carried through the operations it is made of
(41_alu8.md R110; 20_memory.md R58; 70_reset_and_hazards.md R350). -/

namespace Sys2Proof.Machine

open Sys2Proof.Claim

/-- From `s` to `t` only the written registers, F, and the record of the bus accesses change, and each access is
charged 4 cycles. -/
structure Frame (written : List Reg8) (accesses : List BusAccess) (s t : State) : Prop where
  regs : KeepsRegs written s t
  control : KeepsControl s t
  memory : KeepsMemory s t
  bus : Accesses s t accesses
  cycles : t.cycleCount = s.cycleCount + 4 * accesses.length

variable {written : List Reg8} {accesses : List BusAccess} {s t : State}

theorem Frame.refl (s : State) : Frame [] [] s s where
  regs _ _ := rfl
  control := ⟨rfl, rfl, rfl, rfl⟩
  memory _ := rfl
  bus := ⟨rfl, rfl⟩
  cycles := rfl

theorem Frame.readSrc (s : State) (src : Src8) : Frame [] (operandReads s src) s (s.readSrc src).2 where
  regs r _ := s.readSrc_reg8 src r
  control := by simp [KeepsControl, KeepsImeMode]
  memory a := s.readSrc_byteAt src a
  bus := by cases src <;> exact ⟨rfl, rfl⟩
  cycles := by cases src <;> rfl

theorem Frame.setReg8 (h : Frame written accesses s t) (r : Reg8) (v : Byte) :
    Frame (r :: written) accesses s (t.setReg8 r v) where
  regs r' hr' := by
    obtain ⟨hne, hkept⟩ := not_or.mp (List.mem_cons.not.mp hr')
    rw [State.reg8_setReg8, if_neg (Ne.symm hne), h.regs r' hkept]
  control := by simpa [KeepsControl, KeepsImeMode] using h.control
  memory a := (State.byteAt_congr (by simp) a).trans (h.memory a)
  bus := by simpa [Accesses] using h.bus
  cycles := by simpa using h.cycles

theorem Frame.setFlags (h : Frame written accesses s t) (z n hc c : Bool) :
    Frame written accesses s (t.setFlags z n hc c) where
  regs r hr := (State.setFlags_reg8 t z n hc c r).trans (h.regs r hr)
  control := h.control
  memory := h.memory
  bus := h.bus
  cycles := h.cycles

/-- The frame as the statements claim it, with the bytes fetched charged as well. -/
theorem Frame.claims {i : Instr} {n : Nat} (h : Frame written accesses s t)
    (hn : 4 * accesses.length + 4 * (encode i).length = n) :
    KeepsRegs written s t ∧ KeepsControl s t ∧ KeepsMemory s t ∧ Accesses s t accesses ∧ TotalCycles i s t n := by
  refine ⟨h.regs, h.control, h.memory, h.bus, ?_⟩
  rw [TotalCycles, h.cycles]
  omega

/-- The flags just written are the flags the statements claim. -/
theorem flagsAre_setFlags (s : State) (z n h c : Bool) : FlagsAre (s.setFlags z n h c) z n h c := by
  simp [FlagsAre]

/-! ### A byte read and put back -/

/-- `put(z, v)` after `get(z)`, and then the flags (43_rotate_shift.md R170). -/
def State.putAndFlag (s : State) (z : Loc8) (v : Byte) (zf nf hf cf : Bool) : State :=
  ((s.getLoc z).2.putLoc z v).setFlags zf nf hf cf

theorem getLoc_fst (s : State) (z : Loc8) : (s.getLoc z).1 = locByte s z := by
  cases z <;> rfl

theorem readsAndPuts_putAndFlag (s : State) (z : Loc8) (v : Byte) (zf nf hf cf : Bool) :
    ReadsAndPuts s (s.putAndFlag z v zf nf hf cf) z v := by
  cases z with
  | reg r =>
    have hframe : Frame [r] [] s (s.putAndFlag (.reg r) v zf nf hf cf) := ((Frame.refl s).setReg8 r v).setFlags ..
    exact ⟨by simp [State.putAndFlag, State.putLoc_reg8], hframe.regs, hframe.memory, hframe.bus⟩
  | atHl =>
    have hbyte (a : Word) : (s.putAndFlag .atHl v zf nf hf cf).byteAt a =
        if a = s.hl ∧ s.bus.kindAt s.hl = .ram then v else s.byteAt a :=
      (s.memRead s.hl).2.memWrite_byteAt s.hl a v
    refine ⟨fun r _ => ?_, ⟨?_, fun a ha => ?_⟩, rfl, rfl⟩
    · simp [State.putAndFlag, State.putLoc_reg8]
    · simp [hbyte]
    · simp [hbyte, ha]

theorem keepsControl_putAndFlag (s : State) (z : Loc8) (v : Byte) (zf nf hf cf : Bool) :
    KeepsControl s (s.putAndFlag z v zf nf hf cf) := by
  simp [KeepsControl, KeepsImeMode, State.putAndFlag]

/-- The (HL) form makes two accesses where the register form makes none. -/
theorem totalCycles_putAndFlag {i : Instr} {n : Nat} (s : State) (z : Loc8) (v : Byte) (zf nf hf cf : Bool)
    (hn : (if z = .atHl then 8 else 0) + 4 * (encode i).length = n) :
    TotalCycles i s (s.putAndFlag z v zf nf hf cf) n := by
  have hcount : (s.putAndFlag z v zf nf hf cf).cycleCount = s.cycleCount + if z = .atHl then 8 else 0 := by
    cases z with
    | reg r => simp [State.putAndFlag, State.putLoc_cycleCount, State.getLoc_cycleCount]
    | atHl => rfl
  rw [TotalCycles, hcount]
  omega

end Sys2Proof.Machine
end

section
/-! The 8-bit ALU rows with an operand: ADD, ADC, SUB, SBC, AND, XOR, OR and CP (41_alu8.md R112 to R135). -/

namespace Sys2Proof.Machine

open Sys2Proof.Claim

/-! ### The operand and the encoding -/

theorem readSrc_fst (s : State) (src : Src8) : (s.readSrc src).1 = operand s src := by
  cases src <;> rfl

/-- The operation field `y` (30_encoding.md R88). -/
def aluCode : AluOp → Byte
  | .add => 0
  | .adc => 1
  | .sub => 2
  | .sbc => 3
  | .and => 4
  | .xor => 5
  | .or => 6
  | .cp => 7

theorem encode_alu (op : AluOp) (src : Src8) : encode (Row.alu op src) = aluBytes (aluCode op) src := by
  rcases src with r | _ | n
  · cases op <;> cases r <;> rfl
  · cases op <;> rfl
  · cases op <;> rfl

/-- One fetch, and one access more for (HL) or d8. -/
theorem operand_charge (op : AluOp) (src : Src8) (s : State) :
    4 * (operandReads s src).length + 4 * (encode (Row.alu op src)).length = operandCycles src := by
  rw [encode_alu]
  cases src <;> rfl

/-! ### What each operation leaves -/

theorem frame_addToA (s : State) (src : Src8) (cin : Bool) :
    Frame [.a] (operandReads s src) s (s.addToA src cin) :=
  ((Frame.readSrc s src).setReg8 ..).setFlags ..

theorem frame_subFromA (s : State) (src : Src8) (cin : Bool) :
    Frame [.a] (operandReads s src) s (s.subFromA src cin) :=
  ((Frame.readSrc s src).setReg8 ..).setFlags ..

theorem frame_logicResult (s : State) (src : Src8) (res : Byte) (h : Bool) :
    Frame [.a] (operandReads s src) s ((s.readSrc src).2.logicResult res h) :=
  ((Frame.readSrc s src).setReg8 ..).setFlags ..

theorem frame_compareA (s : State) (src : Src8) : Frame [] (operandReads s src) s (s.compareA src) :=
  (Frame.readSrc s src).setFlags ..

theorem addToA_a (s : State) (src : Src8) (cin : Bool) :
    (s.addToA src cin).a = (add8 s.a (operand s src) cin).result := by
  simp [State.addToA, readSrc_fst]

theorem flagsAre_addToA (s : State) (src : Src8) (cin : Bool) :
    FlagsAre (s.addToA src cin) ((s.addToA src cin).a == 0) false (add8 s.a (operand s src) cin).half
      (add8 s.a (operand s src) cin).carry := by
  rw [addToA_a, ← readSrc_fst]
  exact flagsAre_setFlags ..

theorem subFromA_a (s : State) (src : Src8) (cin : Bool) :
    (s.subFromA src cin).a = (sub8 s.a (operand s src) cin).result := by
  simp [State.subFromA, readSrc_fst]

theorem flagsAre_subFromA (s : State) (src : Src8) (cin : Bool) :
    FlagsAre (s.subFromA src cin) ((s.subFromA src cin).a == 0) true (sub8 s.a (operand s src) cin).half
      (sub8 s.a (operand s src) cin).carry := by
  rw [subFromA_a, ← readSrc_fst]
  exact flagsAre_setFlags ..

theorem logicResult_a (s : State) (res : Byte) (h : Bool) : (s.logicResult res h).a = res := by
  simp [State.logicResult]

theorem flagsAre_logicResult (s : State) (res : Byte) (h : Bool) :
    FlagsAre (s.logicResult res h) ((s.logicResult res h).a == 0) false h false := by
  rw [logicResult_a]
  exact flagsAre_setFlags ..

/-- A difference is zero exactly for equal bytes. -/
theorem sub8_result_beq_zero (a b : Byte) : ((sub8 a b false).result == 0) = decide (a = b) := by
  have hiff : (sub8 a b false).result = 0 ↔ a = b := by
    have ha := a.isLt
    have hb := b.isLt
    have hzero : (a.toNat + 512 - b.toNat - 0) % 256 = 0 ↔ a.toNat = b.toNat := by omega
    rw [← BitVec.toNat_inj, toNat_sub8, ← BitVec.toNat_inj]
    exact hzero
  rw [Bool.beq_eq_decide_eq, decide_eq_decide.mpr hiff]

theorem flagsAre_compareA (s : State) (src : Src8) :
    FlagsAre (s.compareA src) (decide (s.a = operand s src)) true (sub8 s.a (operand s src) false).half
      (sub8 s.a (operand s src) false).carry := by
  rw [← sub8_result_beq_zero, ← readSrc_fst]
  exact flagsAre_setFlags ..

/-! ### The statements -/

theorem aluOp_addOrAdc (s : State) (withCarry : Bool) (src : Src8) :
    s.aluOp (if withCarry then .adc else .add) src = s.addToA src (withCarry && s.cf) := by
  cases withCarry <;> rfl

theorem aluOp_subOrSbc (s : State) (withCarry : Bool) (src : Src8) :
    s.aluOp (if withCarry then .sbc else .sub) src = s.subFromA src (withCarry && s.cf) := by
  cases withCarry <;> rfl

/-- Settles O26: the carry in is the carry flag in ADC and none in ADD. -/
theorem addAndAdcResult : Obligations.AddAndAdcResult := by
  intro withCarry src s
  refine ⟨s.addToA src (withCarry && s.cf), ?_, ?_, ?_, ?_, (frame_addToA ..).claims (operand_charge ..)⟩
  · rw [exec_alu, aluOp_addOrAdc]
  · rw [encode_alu]
    cases withCarry <;> rfl
  · rw [addToA_a]
    exact toNat_add8 ..
  · exact flagsAre_addToA ..

/-- Settles O27: the borrow in is the carry flag in SBC and none in SUB. -/
theorem subAndSbcResult : Obligations.SubAndSbcResult := by
  intro withCarry src s
  refine ⟨s.subFromA src (withCarry && s.cf), ?_, ?_, ?_, ?_, (frame_subFromA ..).claims (operand_charge ..)⟩
  · rw [exec_alu, aluOp_subOrSbc]
  · rw [encode_alu]
    cases withCarry <;> rfl
  · rw [subFromA_a]
    exact toNat_sub8 ..
  · have hflags := flagsAre_subFromA s src (withCarry && s.cf)
    rw [half_sub8, carry_sub8] at hflags
    exact hflags

/-- Settles O28: each of the three writes its bitwise result in the same way. -/
theorem logicResult : Obligations.LogicResult := by
  intro src s
  refine ⟨⟨s.andA src, exec_alu .and src s, encode_alu .and src, fun k => ?_, flagsAre_logicResult ..,
      (frame_logicResult ..).claims (operand_charge ..)⟩,
    ⟨s.xorA src, exec_alu .xor src s, encode_alu .xor src, fun k => ?_, flagsAre_logicResult ..,
      (frame_logicResult ..).claims (operand_charge ..)⟩,
    ⟨s.orA src, exec_alu .or src s, encode_alu .or src, fun k => ?_, flagsAre_logicResult ..,
      (frame_logicResult ..).claims (operand_charge ..)⟩⟩
  · rw [State.andA, logicResult_a, readSrc_fst, BitVec.getLsbD_and]
  · rw [State.xorA, logicResult_a, readSrc_fst, BitVec.getLsbD_xor]
  · rw [State.orA, logicResult_a, readSrc_fst, BitVec.getLsbD_or]

/-- Settles O29: the flags are those of the difference, which is written nowhere. -/
theorem compareResult : Obligations.CompareResult := by
  intro src s
  refine ⟨s.compareA src, exec_alu .cp src s, encode_alu .cp src, ?_, (frame_compareA ..).claims (operand_charge ..)⟩
  have hflags := flagsAre_compareA s src
  rw [half_sub8, carry_sub8] at hflags
  exact hflags

end Sys2Proof.Machine
end

section
/-! The 8-bit rows with no second operand: INC and DEC, DAA, CPL, SCF and CCF (41_alu8.md R136 to R143). -/

namespace Sys2Proof.Machine

open Sys2Proof.Claim

/-! ### INC and DEC -/

theorem encode_inc8 (z : Loc8) : encode (Row.inc8 z) = [0x04 + 8 * locCode z] := by
  rcases z with r | _
  · cases r <;> rfl
  · rfl

theorem encode_dec8 (z : Loc8) : encode (Row.dec8 z) = [0x05 + 8 * locCode z] := by
  rcases z with r | _
  · cases r <;> rfl
  · rfl

theorem add_one_eq_ofNat (v : Byte) : v + 1 = BitVec.ofNat 8 (v.toNat + 1) := by
  apply BitVec.eq_of_toNat_eq
  simp

theorem sub_one_eq_ofNat (v : Byte) : v - 1 = BitVec.ofNat 8 (v.toNat + 255) := by
  apply BitVec.eq_of_toNat_eq
  simp [BitVec.toNat_sub, Nat.add_comm]

theorem add_one_beq_zero (v : Byte) : (v + 1 == 0) = decide (v.toNat = 255) := by
  revert v; decide

theorem sub_one_beq_zero (v : Byte) : (v - 1 == 0) = decide (v.toNat = 1) := by
  revert v; decide

/-- INC is one put of the operand plus 1, in the terms of the statements. -/
theorem inc8_eq_putAndFlag (s : State) (z : Loc8) :
    s.inc8 z = s.putAndFlag z (BitVec.ofNat 8 ((locByte s z).toNat + 1)) (decide ((locByte s z).toNat = 255)) false
      (decide ((locByte s z).toNat % 16 = 15)) s.cf := by
  rw [← add_one_eq_ofNat, ← add_one_beq_zero, ← getLoc_fst]
  rfl

/-- DEC is one put of the operand minus 1, in the terms of the statements. -/
theorem dec8_eq_putAndFlag (s : State) (z : Loc8) :
    s.dec8 z = s.putAndFlag z (BitVec.ofNat 8 ((locByte s z).toNat + 255)) (decide ((locByte s z).toNat = 1)) true
      (decide ((locByte s z).toNat % 16 = 0)) s.cf := by
  rw [← sub_one_eq_ofNat, ← sub_one_beq_zero, ← getLoc_fst]
  rfl

/-- Settles O30: INC and DEC put the operand back, one more or one less, with C as it was. -/
theorem incAndDec8Result : Obligations.IncAndDec8Result := by
  intro z s
  have hcycles (op : Byte) : (if z = .atHl then 8 else 0) + 4 * [op].length = if z = .atHl then 12 else 4 := by
    split <;> rfl
  refine ⟨⟨_, (exec_inc8 z s).trans (by rw [inc8_eq_putAndFlag]), encode_inc8 z, readsAndPuts_putAndFlag ..,
      flagsAre_setFlags .., keepsControl_putAndFlag .., totalCycles_putAndFlag (hn := ?_) ..⟩,
    ⟨_, (exec_dec8 z s).trans (by rw [dec8_eq_putAndFlag]), encode_dec8 z, readsAndPuts_putAndFlag ..,
      flagsAre_setFlags .., keepsControl_putAndFlag .., totalCycles_putAndFlag (hn := ?_) ..⟩⟩
  · rw [encode_inc8, hcycles]
  · rw [encode_dec8, hcycles]

/-! ### DAA -/

theorem frame_decimalAdjust (s : State) : Frame [.a] [] s s.decimalAdjust :=
  ((Frame.refl s).setReg8 ..).setFlags ..

theorem decimalAdjust_a (s : State) : s.decimalAdjust.a = (daaAdjust s.a s.nf s.hf s.cf).1 := by
  simp [State.decimalAdjust]

theorem decimalAdjust_cf (s : State) : s.decimalAdjust.cf = (s.cf || (!s.nf && decide (0x99 < s.a.toNat))) :=
  (State.setFlags_cf ..).trans (carry_daaAdjust ..)

theorem flagsAre_decimalAdjust (s : State) :
    FlagsAre s.decimalAdjust (s.decimalAdjust.a == 0) s.nf false s.decimalAdjust.cf := by
  rw [decimalAdjust_a, State.decimalAdjust, State.setFlags_cf]
  exact flagsAre_setFlags ..

/-- DAA by what its two conditions say: the correction, its direction, and the carry. -/
theorem decimalAdjust_of_conditions {s : State} {low high : Prop} [Decidable low] [Decidable high]
    (hlow : (s.hf = true ∨ (s.nf = false ∧ s.a.toNat % 16 > 9)) ↔ low)
    (hhigh : (s.cf = true ∨ (s.nf = false ∧ s.a.toNat > 0x99)) ↔ high) :
    s.decimalAdjust.a.toNat =
      (if s.nf then s.a.toNat + 256 - ((if low then 0x06 else 0x00) + (if high then 0x60 else 0x00))
        else s.a.toNat + ((if low then 0x06 else 0x00) + (if high then 0x60 else 0x00))) % 256 ∧
    s.decimalAdjust.cf = decide high := by
  constructor
  · rw [decimalAdjust_a, toNat_daaAdjust]
    simp only [← hlow, ← hhigh]
    cases s.nf <;> simp
  · rw [decimalAdjust_cf, Bool.eq_iff_iff, decide_eq_true_iff, ← hhigh]
    simp

/-- Settles O31: after an addition both conditions count, after a subtraction the two flags alone. -/
theorem daaResult : Obligations.DaaResult := by
  intro s
  obtain ⟨ha, hc⟩ := decimalAdjust_of_conditions (s := s) Iff.rfl Iff.rfl
  refine ⟨s.decimalAdjust, rfl, rfl, fun hn => ?_, fun hn => ?_, ?_, (frame_decimalAdjust s).claims rfl⟩
  · simpa [hn] using ha
  · simpa [hn] using ha
  · have hflags := flagsAre_decimalAdjust s
    rw [hc] at hflags
    simpa using hflags

/-! ### Decimal sums and differences -/

/-- The half-carry or a low digit above 9 says exactly that the low decimal digits carry. -/
theorem lowCorrection_iff {x y a b : Nat} (ha : a = 16 * (x / 10) + x % 10) (hb : b = 16 * (y / 10) + y % 10) :
    (15 < a % 16 + b % 16 ∨ 9 < (a + b) % 256 % 16) ↔ 10 ≤ x % 10 + y % 10 := by
  omega

/-- The carry or a value above 0x99 says exactly that the decimal sum has three digits. -/
theorem highCorrection_iff {x y a b : Nat} (hx : x < 100) (hy : y < 100) (ha : a = 16 * (x / 10) + x % 10)
    (hb : b = 16 * (y / 10) + y % 10) : (255 < a + b ∨ 0x99 < (a + b) % 256) ↔ 100 ≤ x + y := by
  omega

/-- A correction of 0x06 for each carry out of a low digit and of 0x60 for each out of a high digit. -/
theorem corrected_sum {x y a b : Nat} (hx : x < 100) (hy : y < 100) (ha : a = 16 * (x / 10) + x % 10)
    (hb : b = 16 * (y / 10) + y % 10) :
    ((a + b) % 256 + ((if 10 ≤ x % 10 + y % 10 then 0x06 else 0) + (if 100 ≤ x + y then 0x60 else 0))) % 256 =
      16 * ((x + y) % 100 / 10) + (x + y) % 10 := by
  rw [Nat.mod_add_mod]
  split <;> split <;> omega

/-- Packed bytes borrow as their decimal digits do. -/
theorem halfBorrow_iff {x y a b : Nat} (ha : a = 16 * (x / 10) + x % 10) (hb : b = 16 * (y / 10) + y % 10) :
    a % 16 < b % 16 ↔ x % 10 < y % 10 := by
  omega

/-- Packed bytes stand in the order of the numbers they hold. -/
theorem borrow_iff {x y a b : Nat} (ha : a = 16 * (x / 10) + x % 10) (hb : b = 16 * (y / 10) + y % 10) :
    a < b ↔ x < y := by
  omega

/-- A correction of 0x06 for a borrow into the low digit and of 0x60 for one into the high digit. -/
theorem corrected_difference {x y a b : Nat} (hx : x < 100) (hy : y < 100) (ha : a = 16 * (x / 10) + x % 10)
    (hb : b = 16 * (y / 10) + y % 10) :
    ((a + 512 - b) % 256 + 256 - ((if x % 10 < y % 10 then 0x06 else 0) + (if x < y then 0x60 else 0))) % 256 =
      16 * ((x + 100 - y) % 100 / 10) + (x + 100 - y) % 10 := by
  have hwrap : (a + 512 - b) % 256 = if x < y then a + 256 - b else a - b := by split <;> omega
  have hwrap' : (x + 100 - y) % 100 = if x < y then x + 100 - y else x - y := by split <;> omega
  rw [hwrap, hwrap']
  split <;> split <;> omega

/-- What DAA reads after an addition. -/
theorem addToA_reads (s : State) (src : Src8) :
    (s.addToA src false).a.toNat = (s.a.toNat + (operand s src).toNat) % 256 ∧ (s.addToA src false).nf = false ∧
    (s.addToA src false).hf = decide (15 < s.a.toNat % 16 + (operand s src).toNat % 16) ∧
    (s.addToA src false).cf = decide (255 < s.a.toNat + (operand s src).toNat) := by
  obtain ⟨-, hn, hh, hc, -⟩ := flagsAre_addToA s src false
  exact ⟨by rw [addToA_a, toNat_add8]; rfl, hn, hh, hc⟩

/-- What DAA reads after a subtraction. -/
theorem subFromA_reads (s : State) (src : Src8) :
    (s.subFromA src false).a.toNat = (s.a.toNat + 512 - (operand s src).toNat) % 256 ∧
    (s.subFromA src false).nf = true ∧
    (s.subFromA src false).hf = decide (s.a.toNat % 16 < (operand s src).toNat % 16) ∧
    (s.subFromA src false).cf = decide (s.a.toNat < (operand s src).toNat) := by
  obtain ⟨-, hn, hh, hc, -⟩ := flagsAre_subFromA s src false
  exact ⟨by rw [subFromA_a, toNat_sub8]; rfl, hn, hh.trans (half_sub8 ..), hc.trans (carry_sub8 ..)⟩

/-- Settles O32: DAA's two conditions say where the decimal digits carry or borrow, and it corrects those digits. -/
theorem daaAdjustsDecimalSums : Obligations.DaaAdjustsDecimalSums := by
  intro s x y hx hy ha hb
  change (operand s (.reg .b)).toNat = _ at hb
  refine ⟨⟨s.addToA (.reg .b) false, _, rfl, rfl, ?_⟩, ⟨s.subFromA (.reg .b) false, _, rfl, rfl, ?_⟩⟩
  · obtain ⟨hsum, hn, hh, hc⟩ := addToA_reads s (.reg .b)
    have hlow := lowCorrection_iff ha hb
    have hhigh := highCorrection_iff hx hy ha hb
    obtain ⟨hresult, hcarry⟩ := decimalAdjust_of_conditions (s := s.addToA (.reg .b) false)
      (by simpa [hn, hh, hsum] using hlow) (by simpa [hn, hc, hsum] using hhigh)
    rw [hn, hsum] at hresult
    exact ⟨hresult.trans (corrected_sum hx hy ha hb), hcarry⟩
  · obtain ⟨hdiff, hn, hh, hc⟩ := subFromA_reads s (.reg .b)
    have hlow := halfBorrow_iff ha hb
    have hhigh := borrow_iff ha hb
    obtain ⟨hresult, hcarry⟩ := decimalAdjust_of_conditions (s := s.subFromA (.reg .b) false)
      (by simpa [hn, hh] using hlow) (by simpa [hn, hc] using hhigh)
    rw [hn, hdiff] at hresult
    exact ⟨hresult.trans (corrected_difference hx hy ha hb), hcarry⟩

/-! ### CPL, SCF and CCF -/

/-- Settles O33: CPL writes A and two flags, SCF and CCF three flags. -/
theorem complementAndCarryFlagOps : Obligations.ComplementAndCarryFlagOps := by
  intro s
  refine ⟨⟨s.complementA, rfl, rfl, ?_, flagsAre_setFlags .., (((Frame.refl s).setReg8 ..).setFlags ..).claims rfl⟩,
    ⟨_, rfl, rfl, flagsAre_setFlags .., ((Frame.refl s).setFlags ..).claims rfl⟩,
    ⟨_, rfl, rfl, flagsAre_setFlags .., ((Frame.refl s).setFlags ..).claims rfl⟩⟩
  simp [State.complementA, BitVec.toNat_not]

end Sys2Proof.Machine
end

section
/-! 16-bit arithmetic: INC and DEC of a pair, ADD HL,rr, ADD SP,e8 and LD HL,SP+e8 (42_alu16.md R151 to R155). -/

namespace Sys2Proof.Machine

open Sys2Proof.Claim

/-! ### One pair written after internal cycles -/

/-- From `s` to `t` the pair `p` is set to `v`, `n` internal cycles are charged, and nothing else but F changes. -/
structure SetsPair (p : Pair) (v : Word) (n : Nat) (s t : State) : Prop where
  holds : PairHolds t p v
  regs : KeepsRegs (pairRegs p) s t
  sp : KeepsSpUnless p s t
  pc : t.pc = s.pc
  imeMode : KeepsImeMode s t
  memory : KeepsMemory s t
  bus : Accesses s t []
  cycles : t.cycleCount = s.cycleCount + 4 * n

theorem pairHolds_setPair (s : State) (p : Pair) (v : Word) : PairHolds (s.setPair p v) p v := by
  cases p with
  | bc | de | hl => exact ⟨toNat_hiByte v, toNat_loByte v⟩
  | sp => rfl

theorem keepsRegs_setPair (s : State) (p : Pair) (v : Word) : KeepsRegs (pairRegs p) s (s.setPair p v) := by
  intro r hr
  cases p with
  | bc | de | hl =>
    obtain ⟨hhi, hlo⟩ : r ≠ _ ∧ r ≠ _ := by simpa [pairRegs] using hr
    simp [State.setPair, hhi.symm, hlo.symm]
  | sp => rfl

theorem keepsSpUnless_setPair (s : State) (p : Pair) (v : Word) : KeepsSpUnless p s (s.setPair p v) := by
  by_cases hp : p = .sp
  · exact .inl hp
  · exact .inr (by rw [State.setPair_sp, if_neg hp])

theorem setsPair_internal (s : State) (n : Nat) (p : Pair) (v : Word) :
    SetsPair p v n s ((s.internal n).setPair p v) where
  holds := pairHolds_setPair ..
  regs r hr := (keepsRegs_setPair (s.internal n) p v r hr).trans (s.internal_reg8 n r)
  sp := keepsSpUnless_setPair (s.internal n) p v
  pc := by simp
  imeMode := by simp [KeepsImeMode]
  memory _ := State.byteAt_congr (by simp) _
  bus := by simp [Accesses]
  cycles := by simp

section
variable {p : Pair} {v : Word} {n : Nat} {s t : State}

theorem SetsPair.setFlags (h : SetsPair p v n s t) (z nf hf c : Bool) : SetsPair p v n s (t.setFlags z nf hf c) where
  holds := by cases p <;> exact h.holds
  regs r hr := (State.setFlags_reg8 t z nf hf c r).trans (h.regs r hr)
  sp := h.sp
  pc := h.pc
  imeMode := h.imeMode
  memory := h.memory
  bus := h.bus
  cycles := h.cycles

theorem SetsPair.keepsControl (h : SetsPair p v n s t) (hp : p ≠ .sp) : KeepsControl s t :=
  ⟨h.sp.resolve_left hp, h.pc, h.imeMode⟩

theorem SetsPair.totalCycles {i : Instr} {total : Nat} (h : SetsPair p v n s t)
    (htotal : 4 * n + 4 * (encode i).length = total) : TotalCycles i s t total := by
  rw [TotalCycles, h.cycles, Nat.add_assoc, htotal]

end

/-! ### INC and DEC -/

theorem encode_incPair (p : Pair) : encode (Row.incPair p) = [0x03 + 16 * pairCode p] := by
  cases p <;> rfl

theorem encode_decPair (p : Pair) : encode (Row.decPair p) = [0x0B + 16 * pairCode p] := by
  cases p <;> rfl

theorem word_add_one_eq_ofNat (v : Word) : v + 1 = BitVec.ofNat 16 (v.toNat + 1) := by
  apply BitVec.eq_of_toNat_eq
  simp

theorem word_sub_one_eq_ofNat (v : Word) : v - 1 = BitVec.ofNat 16 (v.toNat + 65535) := by
  apply BitVec.eq_of_toNat_eq
  simp [BitVec.toNat_sub, Nat.add_comm]

theorem setsPair_incPair (s : State) (p : Pair) :
    SetsPair p (BitVec.ofNat 16 ((s.pair p).toNat + 1)) 1 s (s.incPair p) := by
  rw [← word_add_one_eq_ofNat]
  exact setsPair_internal ..

theorem setsPair_decPair (s : State) (p : Pair) :
    SetsPair p (BitVec.ofNat 16 ((s.pair p).toNat + 65535)) 1 s (s.decPair p) := by
  rw [← word_sub_one_eq_ofNat]
  exact setsPair_internal ..

/-- Settles O34: both write the pair after one internal cycle, and neither writes F. -/
theorem incAndDecPairResult : Obligations.IncAndDecPairResult := by
  intro p s
  have hinc := setsPair_incPair s p
  have hdec := setsPair_decPair s p
  refine ⟨⟨s.incPair p, exec_incPair p s, encode_incPair p, hinc.holds, hinc.regs, hinc.sp, ?_, hinc.pc, hinc.imeMode,
      hinc.memory, hinc.bus, hinc.totalCycles ?_⟩,
    ⟨s.decPair p, exec_decPair p s, encode_decPair p, hdec.holds, hdec.regs, hdec.sp, ?_, hdec.pc, hdec.imeMode,
      hdec.memory, hdec.bus, hdec.totalCycles ?_⟩⟩
  · simp [KeepsFlags, State.incPair]
  · rw [encode_incPair]; rfl
  · simp [KeepsFlags, State.decPair]
  · rw [encode_decPair]; rfl

/-! ### ADD HL,rr -/

theorem encode_addHlPair (p : Pair) : encode (Row.addHlPair p) = [0x09 + 16 * pairCode p] := by
  cases p <;> rfl

theorem setsPair_addHl (s : State) (p : Pair) :
    SetsPair .hl (BitVec.ofNat 16 (s.hl.toNat + (s.pair p).toNat)) 1 s (s.addHl p) :=
  (setsPair_internal ..).setFlags ..

/-- Settles O35: HL gets the sum after one internal cycle, and Z is written back as it was. -/
theorem addHlResult : Obligations.AddHlResult := by
  intro p s
  have hadd := setsPair_addHl s p
  refine ⟨s.addHl p, exec_addHlPair p s, encode_addHlPair p, hadd.holds, flagsAre_setFlags .., hadd.regs,
    hadd.keepsControl (by decide), hadd.memory, hadd.bus, hadd.totalCycles ?_⟩
  rw [encode_addHlPair]; rfl

/-! ### ADD SP,e8 and LD HL,SP+e8 -/

theorem add_sext16_eq_ofInt (v : Word) (e : Byte) : v + sext16 e = BitVec.ofInt 16 ((v.toNat : Int) + e.toInt) := by
  apply BitVec.eq_of_toNat_eq
  have htoNat := toNat_add_sext16 v e
  rw [BitVec.toNat_ofInt]
  omega

theorem setsPair_addSp (s : State) (e : Byte) : SetsPair .sp (s.sp + sext16 e) 2 s (s.addSp e) :=
  (setsPair_internal s 2 .sp _).setFlags ..

theorem setsPair_loadHlSpOffset (s : State) (e : Byte) :
    SetsPair .hl (BitVec.ofInt 16 ((s.sp.toNat : Int) + e.toInt)) 1 s (s.loadHlSpOffset e) := by
  rw [← add_sext16_eq_ofInt]
  exact (setsPair_internal ..).setFlags ..

/-- Settles O36: the two share sum and flags, and differ in the pair they write and in one internal cycle. -/
theorem stackPointerOffsetResult : Obligations.StackPointerOffsetResult := by
  intro e s
  have hsp := setsPair_addSp s e
  have hhl := setsPair_loadHlSpOffset s e
  refine ⟨⟨s.addSp e, rfl, rfl, ?_, flagsAre_setFlags .., hsp.regs, hsp.pc, hsp.imeMode, hsp.memory, hsp.bus,
      hsp.totalCycles rfl⟩,
    ⟨s.loadHlSpOffset e, rfl, rfl, hhl.holds, flagsAre_setFlags .., hhl.regs, hhl.keepsControl (by decide), hhl.memory,
      hhl.bus, hhl.totalCycles rfl⟩⟩
  have hsum : (s.addSp e).sp = s.sp + sext16 e := hsp.holds
  rw [hsum]
  exact toNat_add_sext16 s.sp e

end Sys2Proof.Machine
end

section
/-! Rotates, shifts and SWAP (43_rotate_shift.md R171 to R190). -/

namespace Sys2Proof.Machine

open Sys2Proof.Claim

/-! ### The table of R170 in natural arithmetic -/

/-- The result of a rotate, shift or swap of the byte `v` with the carry `c`, both as numbers. -/
def rotNat (op : RotOp) (v c : Nat) : Nat :=
  match op with
  | .rlc => 2 * v % 256 + v / 128
  | .rrc => v / 2 + 128 * (v % 2)
  | .rl => 2 * v % 256 + c
  | .rr => v / 2 + 128 * c
  | .sla => 2 * v % 256
  | .sra => v / 2 + 128 * (v / 128)
  | .swap => 16 * (v % 16) + v / 16
  | .srl => v / 2

/-- Two fields side by side, as a number. -/
theorem toNat_append_eq_add {m n : Nat} (hi : BitVec m) (lo : BitVec n) :
    (hi ++ lo).toNat = 2 ^ n * hi.toNat + lo.toNat := by
  rw [BitVec.toNat_append, ← Nat.shiftLeft_add_eq_or_of_lt lo.isLt, Nat.shiftLeft_eq, Nat.mul_comm]

/-- The field of `n` bits of a byte from bit `start` on, as a number. -/
theorem toNat_slice (v : Byte) (start n : Nat) : (v.extractLsb' start n).toNat = v.toNat / 2 ^ start % 2 ^ n := by
  rw [BitVec.extractLsb'_toNat, Nat.shiftRight_eq_div_pow]

/-- Each row of the table joins two fields, and puts the number of the one above that of the other. -/
theorem toNat_rotResult (op : RotOp) (v : Byte) (c : Bool) :
    (rotResult op v c).toNat = rotNat op v.toNat (bitNat c) := by
  have hv := v.isLt
  have hc : (BitVec.ofBool c).toNat = bitNat c := by cases c <;> rfl
  cases op <;>
    simp only [rotResult, rotNat, toNat_append_eq_add, toNat_slice, hc, BitVec.ofNat_eq_ofNat, BitVec.toNat_zero] <;>
    omega

theorem rotResult_eq_ofNat (op : RotOp) (v : Byte) (c : Bool) :
    rotResult op v c = BitVec.ofNat 8 (rotNat op v.toNat (bitNat c)) := by
  rw [← toNat_rotResult, BitVec.ofNat_toNat, BitVec.setWidth_eq]

theorem rotResult_beq_zero (op : RotOp) (v : Byte) (c : Bool) :
    (rotResult op v c == 0) = decide (rotNat op v.toNat (bitNat c) = 0) := by
  rw [Bool.beq_eq_decide_eq, ← toNat_rotResult]
  exact decide_eq_decide.mpr BitVec.toNat_eq

/-! ### The accumulator rotates -/

theorem frame_rotateA (s : State) (op : RotOp) : Frame [.a] [] s (s.rotateA op) :=
  ((Frame.refl s).setReg8 ..).setFlags ..

theorem rotateA_a (s : State) (op : RotOp) : (s.rotateA op).a = rotResult op s.a s.cf := by
  simp [State.rotateA]

/-- What an accumulator rotate, which is one byte long, leaves in the state, in the terms of the statement. -/
theorem exec_accumulatorRotate {i : Instr} {op : RotOp} {code : Byte} {s : State}
    (hexec : exec i s = .next (s.rotateA op)) (hcode : encode i = [code]) :
    ∃ t, (exec i s = .next t ∧ encode i = [code] ∧ KeepsRegs [.a] s t ∧ KeepsControl s t ∧ KeepsMemory s t ∧
        Accesses s t [] ∧ TotalCycles i s t 4) ∧
      t.a.toNat = rotNat op s.a.toNat (bitNat s.cf) ∧ FlagsAre t false false false (rotCarry op s.a) := by
  refine ⟨s.rotateA op, ⟨hexec, hcode, (frame_rotateA s op).claims ?_⟩, ?_, flagsAre_setFlags ..⟩
  · rw [hcode]; rfl
  · rw [rotateA_a, toNat_rotResult]

/-- Settles O37: each of the four is one rotate of A, by its own row of the table. -/
theorem accumulatorRotates : Obligations.AccumulatorRotates := by
  intro s
  exact ⟨exec_accumulatorRotate (op := .rlc) rfl rfl, exec_accumulatorRotate (op := .rrc) rfl rfl,
    exec_accumulatorRotate (op := .rl) rfl rfl, exec_accumulatorRotate (op := .rr) rfl rfl⟩

/-! ### The CB rotates, shifts and SWAP -/

theorem setWidth_locIndex (z : Loc8) : (locIndex z).setWidth 8 = locCode z := by
  rcases z with r | _
  · cases r <;> rfl
  · rfl

/-- An opcode byte as the number its fields `x`, `y` and `z` make (30_encoding.md R82). -/
theorem fieldsByte_eq_add (x : BitVec 2) (y z : BitVec 3) :
    fieldsByte x y z = 64 * x.setWidth 8 + 8 * y.setWidth 8 + z.setWidth 8 := by
  revert x y z; decide

theorem encode_rot_eq_add (op : RotOp) (z : Loc8) :
    encode (Row.rot op z) = [0xCB, 8 * (rotIndex op).setWidth 8 + locCode z] := by
  rw [encode_rot, fieldsByte_eq_add, setWidth_locIndex]
  simp

/-- A CB rotate, shift or SWAP is one put of its result, in the terms of the statements. -/
theorem rotateLoc_eq_putAndFlag (s : State) (op : RotOp) (z : Loc8) :
    s.rotateLoc op z = s.putAndFlag z (BitVec.ofNat 8 (rotNat op (locByte s z).toNat (bitNat s.cf)))
      (decide (rotNat op (locByte s z).toNat (bitNat s.cf) = 0)) false false (rotCarry op (locByte s z)) := by
  rw [← rotResult_eq_ofNat, ← rotResult_beq_zero, ← getLoc_fst]
  rfl

/-- What a CB rotate, shift or SWAP leaves in the state, in the terms of the statements. -/
theorem exec_rot_result (op : RotOp) (z : Loc8) (s : State) :
    ∃ t, exec (Row.rot op z) s = .next t ∧
      encode (Row.rot op z) = [0xCB, 8 * (rotIndex op).setWidth 8 + locCode z] ∧
      ReadsAndPuts s t z (BitVec.ofNat 8 (rotNat op (locByte s z).toNat (bitNat s.cf))) ∧
      FlagsAre t (decide (rotNat op (locByte s z).toNat (bitNat s.cf) = 0)) false false (rotCarry op (locByte s z)) ∧
      KeepsControl s t ∧ TotalCycles (Row.rot op z) s t (if z = .atHl then 16 else 8) := by
  refine ⟨_, (exec_rot op z s).trans (by rw [rotateLoc_eq_putAndFlag]), encode_rot_eq_add op z,
    readsAndPuts_putAndFlag .., flagsAre_setFlags .., keepsControl_putAndFlag .., totalCycles_putAndFlag (hn := ?_) ..⟩
  rw [encode_rot_eq_add]
  split <;> rfl

/-- Settles O38: each of the four is one row of the table, put back where its operand was read. -/
theorem cbRotates : Obligations.CbRotates := by
  intro z s
  exact ⟨exec_rot_result .rlc z s, exec_rot_result .rrc z s, exec_rot_result .rl z s, exec_rot_result .rr z s⟩

/-- Settles O39: the other four rows of the table, none of which reads the carry. -/
theorem cbShiftsAndSwap : Obligations.CbShiftsAndSwap := by
  intro z s
  exact ⟨exec_rot_result .sla z s, exec_rot_result .sra z s, exec_rot_result .swap z s, exec_rot_result .srl z s⟩

end Sys2Proof.Machine
end

section
/-! Bit test, reset and set (44_bit.md R191 to R196). -/

namespace Sys2Proof.Machine

open Sys2Proof.Claim

/-! ### The encodings -/

theorem encode_bit_eq_add (b : BitVec 3) (z : Loc8) :
    encode (Row.bit b z) = [0xCB, 0x40 + 8 * b.setWidth 8 + locCode z] := by
  rw [encode_bit, fieldsByte_eq_add, setWidth_locIndex]
  rfl

theorem encode_res_eq_add (b : BitVec 3) (z : Loc8) :
    encode (Row.res b z) = [0xCB, 0x80 + 8 * b.setWidth 8 + locCode z] := by
  rw [encode_res, fieldsByte_eq_add, setWidth_locIndex]
  rfl

theorem encode_set_eq_add (b : BitVec 3) (z : Loc8) :
    encode (Row.set b z) = [0xCB, 0xC0 + 8 * b.setWidth 8 + locCode z] := by
  rw [encode_set, fieldsByte_eq_add, setWidth_locIndex]
  rfl

/-! ### BIT -/

/-- `get(z)` is one read at HL for (HL), and nothing for a register (43_rotate_shift.md R170). -/
theorem Frame.getLoc (s : State) (z : Loc8) :
    Frame [] (if z = .atHl then [.read s.hl (answer s s.hl)] else []) s (s.getLoc z).2 := by
  cases z with
  | reg r => exact Frame.refl s
  | atHl => exact Frame.readSrc s .atHl

/-- The complement of a bit, as the statement of BIT has it. -/
theorem not_getLsbD_eq_decide (v : Byte) (k : Nat) : (!v.getLsbD k) = decide (v.toNat / 2 ^ k % 2 = 0) := by
  rw [BitVec.getLsbD, Nat.testBit_eq_decide_div_mod_eq, ← decide_not, decide_eq_decide]
  exact Nat.mod_two_ne_one

theorem flagsAre_testBit (s : State) (b : BitVec 3) (z : Loc8) :
    FlagsAre (s.testBit b z) (decide ((locByte s z).toNat / 2 ^ b.toNat % 2 = 0)) false true s.cf := by
  rw [← not_getLsbD_eq_decide, ← getLoc_fst]
  exact flagsAre_setFlags ..

theorem frame_testBit (s : State) (b : BitVec 3) (z : Loc8) :
    Frame [] (if z = .atHl then [.read s.hl (answer s s.hl)] else []) s (s.testBit b z) :=
  (Frame.getLoc s z).setFlags ..

/-- Settles O40: BIT gets its operand and writes F, and puts nothing back. -/
theorem bitTestResult : Obligations.BitTestResult := by
  intro b z s
  refine ⟨s.testBit b z, exec_bit b z s, encode_bit_eq_add b z, flagsAre_testBit s b z,
    (frame_testBit s b z).claims ?_⟩
  rw [encode_bit_eq_add]
  cases z <;> rfl

/-! ### RES and SET -/

/-- `put(z, v)` after `get(z)`, and no flag (43_rotate_shift.md R170). -/
def State.putBack (s : State) (z : Loc8) (v : Byte) : State := (s.getLoc z).2.putLoc z v

theorem clearBit_eq_putBack (s : State) (b : BitVec 3) (z : Loc8) :
    s.clearBit b z = s.putBack z (locByte s z &&& ~~~bitMask b) := by
  rw [← getLoc_fst]
  rfl

theorem putBit_eq_putBack (s : State) (b : BitVec 3) (z : Loc8) :
    s.putBit b z = s.putBack z (locByte s z ||| bitMask b) := by
  rw [← getLoc_fst]
  rfl

theorem readsAndPuts_setFlags_iff (s t : State) (z : Loc8) (v : Byte) (zf nf hf cf : Bool) :
    ReadsAndPuts s (t.setFlags zf nf hf cf) z v ↔ ReadsAndPuts s t z v := by
  cases z <;> simp only [ReadsAndPuts, KeepsRegs, State.setFlags_reg8] <;> rfl

/-- Without the flags, a put back does what it does with them. -/
theorem readsAndPuts_putBack (s : State) (z : Loc8) (v : Byte) : ReadsAndPuts s (s.putBack z v) z v :=
  (readsAndPuts_setFlags_iff ..).mp (readsAndPuts_putAndFlag s z v false false false false)

theorem keepsFlags_putBack (s : State) (z : Loc8) (v : Byte) : KeepsFlags s (s.putBack z v) := by
  simp [KeepsFlags, State.putBack]

theorem getLsbD_bitMask (b : BitVec 3) (k : Nat) : (bitMask b).getLsbD k = decide (k = b.toNat) := by
  have hb : b.toNat < 8 := b.isLt
  have htwoPow : bitMask b = BitVec.twoPow 8 b.toNat := rfl
  simp [htwoPow, BitVec.getLsbD_twoPow, hb, eq_comm]

theorem getLsbD_and_not_bitMask (v : Byte) (b : BitVec 3) {k : Nat} (hk : k < 8) :
    (v &&& ~~~bitMask b).getLsbD k = (decide (k ≠ b.toNat) && v.getLsbD k) := by
  rw [BitVec.getLsbD_and, BitVec.getLsbD_not, getLsbD_bitMask]
  simp [hk, Bool.and_comm]

theorem getLsbD_or_bitMask (v : Byte) (b : BitVec 3) (k : Nat) :
    (v ||| bitMask b).getLsbD k = (decide (k = b.toNat) || v.getLsbD k) := by
  rw [BitVec.getLsbD_or, getLsbD_bitMask, Bool.or_comm]

/-- What a CB row that only puts a byte back leaves in the state, in the terms of the statement. -/
theorem exec_putBack_result {i : Instr} {z : Loc8} {s : State} {v cbop : Byte} {bits : Nat → Bool}
    (hexec : exec i s = .next (s.putBack z v)) (hcode : encode i = [0xCB, cbop])
    (hbits : ∀ k, k < 8 → v.getLsbD k = bits k) :
    ∃ t v, exec i s = .next t ∧ encode i = [0xCB, cbop] ∧ ReadsAndPuts s t z v ∧
      (∀ k, k < 8 → v.getLsbD k = bits k) ∧ KeepsFlags s t ∧ KeepsControl s t ∧
      TotalCycles i s t (if z = .atHl then 16 else 8) := by
  refine ⟨_, v, hexec, hcode, readsAndPuts_putBack s z v, hbits, keepsFlags_putBack s z v,
    keepsControl_putAndFlag s z v false false false false,
    totalCycles_putAndFlag s z v false false false false ?_⟩
  rw [hcode]
  split <;> rfl

/-- Settles O41: both put the operand back with one bit changed by the mask, and write no flag. -/
theorem resAndSetResult : Obligations.ResAndSetResult := by
  intro b z s
  exact ⟨exec_putBack_result ((exec_res b z s).trans (by rw [clearBit_eq_putBack])) (encode_res_eq_add b z)
      fun _ hk => getLsbD_and_not_bitMask _ b hk,
    exec_putBack_result ((exec_set b z s).trans (by rw [putBit_eq_putBack])) (encode_set_eq_add b z)
      fun k _ => getLsbD_or_bitMask _ b k⟩

end Sys2Proof.Machine
end

section
/-! Loads and stores, none of which writes a flag (45_load.md R200 to R222). -/

namespace Sys2Proof.Machine

open Sys2Proof.Claim

/-! ### Encodings and addresses -/

theorem wordBytes_eq (w : Word) : wordBytes w = [loByte w, hiByte w] := by
  rw [wordBytes, ← loByte_eq_ofNat, ← hiByte_eq_ofNat]

theorem highPage_eq_ofNat (n : Byte) : highPage n = BitVec.ofNat 16 (0xFF00 + n.toNat) := by
  rw [← toNat_highPage, BitVec.ofNat_toNat, BitVec.setWidth_eq]

theorem encode_ldRR (dst src : Reg8) : encode (Row.ldRR dst src) = [0x40 + 8 * regCode dst + regCode src] := by
  cases dst <;> cases src <;> rfl

theorem encode_ldRD8 (dst : Reg8) (n : Byte) : encode (Row.ldRD8 dst n) = [0x06 + 8 * regCode dst, n] := by
  cases dst <;> rfl

theorem encode_ldRAtHl (dst : Reg8) : encode (Row.ldRAtHl dst) = [0x46 + 8 * regCode dst] := by
  cases dst <;> rfl

theorem encode_ldAtHlR (src : Reg8) : encode (Row.ldAtHlR src) = [0x70 + regCode src] := by
  cases src <;> rfl

theorem encode_ldPairD16 (p : Pair) (nn : Word) :
    encode (Row.ldPairD16 p nn) = (0x01 + 16 * pairCode p) :: wordBytes nn := by
  rw [wordBytes_eq]
  cases p <;> rfl

/-! ### What a load and a store leave as it was -/

section
variable {i : Instr} {written : List Reg8} {accesses : List BusAccess} {s t : State} {addr : Word} {v : Byte} {n : Nat}

theorem Frame.memRead (s : State) (addr : Word) : Frame [] [.read addr (answer s addr)] s (s.memRead addr).2 where
  regs r _ := s.memRead_reg8 addr r
  control := ⟨rfl, rfl, rfl, rfl⟩
  memory a := s.memRead_byteAt addr a
  bus := s.memRead_accesses addr
  cycles := rfl

theorem Frame.loadFrom (s : State) (dst : Reg8) (addr : Word) :
    Frame [dst] [.read addr (answer s addr)] s (s.loadFrom dst addr) :=
  (Frame.memRead s addr).setReg8 ..

theorem Frame.setHl (h : Frame written accesses s t) (v : Word) :
    Frame (written ++ [.h, .l]) accesses s (t.setPair .hl v) := by
  have hboth := (h.setReg8 .h (hiByte v)).setReg8 .l (loByte v)
  refine { hboth with regs := fun r hr => hboth.regs r ?_ }
  obtain ⟨hkept, hneH, hneL⟩ : r ∉ written ∧ r ≠ .h ∧ r ≠ .l := by simpa using hr
  simp [hkept, hneH, hneL]

/-- A frame with F kept as well, as the statements about loads claim it. -/
theorem Frame.loadClaims (h : Frame written accesses s t) (hf : KeepsFlags s t)
    (hn : 4 * accesses.length + 4 * (encode i).length = n) :
    KeepsRegs written s t ∧ KeepsFlags s t ∧ KeepsControl s t ∧ KeepsMemory s t ∧ Accesses s t accesses ∧
      TotalCycles i s t n := by
  obtain ⟨hregs, hrest⟩ := h.claims hn
  exact ⟨hregs, hf, hrest⟩

/-- Memory holds the byte stored, when nothing but registers is written after the store. -/
theorem Frame.storesByte (h : Frame written [] (s.memWrite addr v) t) : StoresByte s t addr v := by
  obtain ⟨hat, helse⟩ := s.memWrite_storesByte addr v
  exact ⟨(h.memory addr).trans hat, fun a ha => (h.memory a).trans (helse a ha)⟩

/-- The rest of the state, when nothing but registers is written after a store: one access, charged 4 cycles. -/
theorem Frame.storeClaims (h : Frame written [] (s.memWrite addr v) t) (hf : KeepsFlags s t)
    (hn : 4 + 4 * (encode i).length = n) :
    KeepsRegs written s t ∧ KeepsFlags s t ∧ KeepsControl s t ∧ Accesses s t [.write addr v] ∧
      TotalCycles i s t n := by
  refine ⟨fun r hr => (h.regs r hr).trans (s.memWrite_reg8 addr v r), hf, h.control, h.bus, ?_⟩
  rw [TotalCycles, h.cycles, State.memWrite_cycleCount, List.length_nil]
  omega

end

/-! ### One load, one store -/

section
variable {i : Instr} {bytes : List Byte} {s : State} {addr : Word} {v : Byte} {n : Nat}

theorem loadFrom_reg8 (s : State) (dst : Reg8) (addr : Word) : (s.loadFrom dst addr).reg8 dst = answer s addr := by
  simp [State.loadFrom, answer]

theorem keepsFlags_loadFrom (s : State) (dst : Reg8) (addr : Word) : KeepsFlags s (s.loadFrom dst addr) := by
  simp [KeepsFlags, State.loadFrom]

/-- What an instruction that sets one register from its own bytes leaves in the state. -/
theorem exec_setReg8_result {dst : Reg8} (hexec : exec i s = .next (s.setReg8 dst v)) (hcode : encode i = bytes)
    (hn : 4 * bytes.length = n) :
    ∃ t, exec i s = .next t ∧ encode i = bytes ∧ t.reg8 dst = v ∧ KeepsRegs [dst] s t ∧ KeepsFlags s t ∧
      KeepsControl s t ∧ KeepsMemory s t ∧ Accesses s t [] ∧ TotalCycles i s t n := by
  refine ⟨_, hexec, hcode, by simp, ((Frame.refl s).setReg8 dst v).loadClaims (s.setReg8_f dst v) ?_⟩
  simpa [hcode] using hn

/-- What an instruction that loads one register from memory leaves in the state. -/
theorem exec_loadFrom_result {dst : Reg8} (hexec : exec i s = .next (s.loadFrom dst addr)) (hcode : encode i = bytes)
    (hn : 4 + 4 * bytes.length = n) :
    ∃ t, exec i s = .next t ∧ encode i = bytes ∧ t.reg8 dst = answer s addr ∧ KeepsRegs [dst] s t ∧ KeepsFlags s t ∧
      KeepsControl s t ∧ KeepsMemory s t ∧ Accesses s t [.read addr (answer s addr)] ∧ TotalCycles i s t n :=
  ⟨_, hexec, hcode, loadFrom_reg8 s dst addr,
    (Frame.loadFrom s dst addr).loadClaims (keepsFlags_loadFrom s dst addr) (hcode ▸ hn)⟩

/-- What an instruction that stores one byte leaves in the state. -/
theorem exec_memWrite_result (hexec : exec i s = .next (s.memWrite addr v)) (hcode : encode i = bytes)
    (hn : 4 + 4 * bytes.length = n) :
    ∃ t, exec i s = .next t ∧ encode i = bytes ∧ StoresByte s t addr v ∧ KeepsRegs [] s t ∧ KeepsFlags s t ∧
      KeepsControl s t ∧ Accesses s t [.write addr v] ∧ TotalCycles i s t n :=
  ⟨_, hexec, hcode, (Frame.refl _).storesByte, (Frame.refl _).storeClaims rfl (hcode ▸ hn)⟩

end

/-- Settles O42: one register is set, to its own value in a self-copy. -/
theorem loadRegisterFromRegister : Obligations.LoadRegisterFromRegister := by
  intro dst src s
  have hframe : Frame [dst] [] s (s.loadReg dst src) := (Frame.refl s).setReg8 ..
  refine ⟨s.loadReg dst src, exec_ldRR dst src s, encode_ldRR dst src, by simp [State.loadReg], ?_,
    hframe.loadClaims (s.setReg8_f ..) (by rw [encode_ldRR]; rfl)⟩
  rintro rfl
  exact s.setReg8_reg8 dst

/-- Settles O43: the immediate byte goes to the register, or to memory at HL. -/
theorem loadImmediateByte : Obligations.LoadImmediateByte := fun n s =>
  ⟨fun dst => exec_setReg8_result (exec_ldRD8 dst n s) (encode_ldRD8 dst n) rfl, exec_memWrite_result rfl rfl rfl⟩

/-- Settles O44: HL is read before the register is written. -/
theorem loadThroughHl : Obligations.LoadThroughHl := fun r s =>
  ⟨exec_loadFrom_result (exec_ldRAtHl r s) (encode_ldRAtHl r) rfl,
    exec_memWrite_result (exec_ldAtHlR r s) (encode_ldAtHlR r) rfl⟩

/-- Settles O45: the five are one load of A, each from its own address. -/
theorem loadAccumulatorFromAddress : Obligations.LoadAccumulatorFromAddress := by
  intro nn n s
  simp only [← mkWord_eq_ofNat, ← highPage_eq_ofNat, wordBytes_eq]
  exact ⟨exec_loadFrom_result (dst := .a) rfl rfl rfl, exec_loadFrom_result (dst := .a) rfl rfl rfl,
    exec_loadFrom_result (dst := .a) rfl rfl rfl, exec_loadFrom_result (dst := .a) rfl rfl rfl,
    exec_loadFrom_result (dst := .a) rfl rfl rfl⟩

/-- Settles O46: the five are one store of A, each to its own address. -/
theorem storeAccumulatorToAddress : Obligations.StoreAccumulatorToAddress := by
  intro nn n s
  simp only [← mkWord_eq_ofNat, ← highPage_eq_ofNat, wordBytes_eq]
  exact ⟨exec_memWrite_result rfl rfl rfl, exec_memWrite_result rfl rfl rfl, exec_memWrite_result rfl rfl rfl,
    exec_memWrite_result rfl rfl rfl, exec_memWrite_result rfl rfl rfl⟩

/-! ### The access at HL, and HL stepped -/

section
variable {i : Instr} {op : Byte} {s : State} {newHl : Word}

/-- What an instruction that stores A at HL and then sets HL leaves in the state. -/
theorem exec_storeAndSetHl_result (hexec : exec i s = .next ((s.memWrite s.hl s.a).setPair .hl newHl))
    (hcode : encode i = [op]) :
    ∃ t, exec i s = .next t ∧ encode i = [op] ∧ StoresByte s t s.hl s.a ∧ PairHolds t .hl newHl ∧
      KeepsRegs [.h, .l] s t ∧ KeepsFlags s t ∧ KeepsControl s t ∧ Accesses s t [.write s.hl s.a] ∧
      TotalCycles i s t 8 := by
  have hframe : Frame [.h, .l] [] (s.memWrite s.hl s.a) _ := (Frame.refl _).setHl newHl
  exact ⟨_, hexec, hcode, hframe.storesByte, pairHolds_setPair .., hframe.storeClaims rfl (by rw [hcode]; rfl)⟩

/-- What an instruction that loads A at HL and then sets HL leaves in the state. -/
theorem exec_loadAndSetHl_result (hexec : exec i s = .next ((s.loadFrom .a s.hl).setPair .hl newHl))
    (hcode : encode i = [op]) :
    ∃ t, exec i s = .next t ∧ encode i = [op] ∧ t.a = answer s s.hl ∧ PairHolds t .hl newHl ∧
      KeepsRegs [.a, .h, .l] s t ∧ KeepsFlags s t ∧ KeepsControl s t ∧ KeepsMemory s t ∧
      Accesses s t [.read s.hl (answer s s.hl)] ∧ TotalCycles i s t 8 :=
  ⟨_, hexec, hcode, loadFrom_reg8 s .a s.hl, pairHolds_setPair ..,
    ((Frame.loadFrom s .a s.hl).setHl newHl).loadClaims (keepsFlags_loadFrom s .a s.hl) (by rw [hcode]; rfl)⟩

end

/-- Settles O47: each is one access at HL, and then HL set one further or one back. -/
theorem loadAndStepHl : Obligations.LoadAndStepHl := by
  intro s
  simp only [← word_add_one_eq_ofNat, ← word_sub_one_eq_ofNat]
  exact ⟨exec_storeAndSetHl_result rfl rfl, exec_storeAndSetHl_result rfl rfl, exec_loadAndSetHl_result rfl rfl,
    exec_loadAndSetHl_result rfl rfl⟩

/-! ### Words -/

theorem setsPair_setPair (s : State) (p : Pair) (v : Word) : SetsPair p v 0 s (s.setPair p v) :=
  setsPair_internal s 0 p v

/-- Settles O48: both set one pair, LD SP,HL after one internal cycle. -/
theorem loadWord : Obligations.LoadWord := by
  intro s
  constructor
  · intro p nn
    have hset := setsPair_setPair s p nn
    exact ⟨s.setPair p nn, exec_ldPairD16 p nn s, encode_ldPairD16 p nn, hset.holds, hset.regs, hset.sp,
      s.setPair_f p nn, hset.pc, hset.imeMode, hset.memory, hset.bus, hset.totalCycles (by rw [encode_ldPairD16]; rfl)⟩
  · have hset : SetsPair .sp s.hl 1 s ((s.internal 1).setSp s.hl) := setsPair_internal s 1 .sp s.hl
    exact ⟨(s.internal 1).setSp s.hl, rfl, rfl, toNat_mkWord s.h s.l, hset.regs, rfl, hset.pc, hset.imeMode,
      hset.memory, hset.bus, hset.totalCycles rfl⟩

/-- The second byte of a word goes to another address than the first, at 0xFFFF too. -/
theorem storesPair_storeWord (s : State) (addr v : Word) :
    StoresPair s (s.storeWord addr v) addr (loByte v) (hiByte v) := by
  have hne : addr ≠ addr + 1 := by bv_omega
  obtain ⟨hlo, hafterLo⟩ := s.memWrite_storesByte addr (loByte v)
  obtain ⟨hhi, hafterHi⟩ := (s.memWrite addr (loByte v)).memWrite_storesByte (addr + 1) (hiByte v)
  rw [hafterLo (addr + 1) hne.symm] at hhi
  exact ⟨(hafterHi addr hne).trans hlo, hhi, fun a hneLo hneHi => (hafterHi a hneHi).trans (hafterLo a hneLo)⟩

/-- Settles O49: two stores, the halves of SP in the order of their addresses. -/
theorem storeStackPointer : Obligations.StoreStackPointer := by
  intro nn s
  simp only [← loByte_eq_ofNat, ← hiByte_eq_ofNat, wordBytes_eq]
  exact ⟨s.storeWord nn s.sp, rfl, rfl, storesPair_storeWord s nn s.sp, fun r _ => by simp [State.storeWord], rfl,
    ⟨rfl, rfl, rfl, rfl⟩, ⟨rfl, rfl⟩, rfl⟩

end Sys2Proof.Machine
end

section
/-! The stack (46_stack.md R240 to R244). -/

namespace Sys2Proof.Machine

open Sys2Proof.Claim

/-! ### PUSH -/

theorem encode_push (p : StackPair) : encode (Row.push p) = [0xC5 + 16 * stackPairCode p] := by
  cases p <;> rfl

theorem word_sub_two_add_one (v : Word) : v - 2 + 1 = v - 1 := by
  bv_omega

/-- The high byte, written first, lies above the low byte, where SP wraps too. -/
theorem storesPair_push16 (s : State) (v : Word) : StoresPair s (s.push16 v) (s.sp - 2) (loByte v) (hiByte v) := by
  have hne : s.sp - 1 ≠ s.sp - 2 := by bv_omega
  obtain ⟨hhi, hafterHi⟩ := (s.setSp (s.sp - 1)).memWrite_storesByte (s.sp - 1) (hiByte v)
  obtain ⟨hlo, hafterLo⟩ :=
    (((s.setSp (s.sp - 1)).memWrite (s.sp - 1) (hiByte v)).setSp (s.sp - 2)).memWrite_storesByte (s.sp - 2) (loByte v)
  rw [StoresPair, word_sub_two_add_one]
  refine ⟨hlo.trans ?_, (hafterLo _ hne).trans hhi, fun a hneLo hneHi => (hafterLo a hneLo).trans (hafterHi a hneHi)⟩
  exact congrArg (fun old => if s.bus.kindAt (s.sp - 2) = .ram then loByte v else old) (hafterHi _ hne.symm)

/-- From `s` to `t` one internal cycle is charged, the bytes `hi` and `lo` are pushed, and PC is set to `pc`; nothing
else changes. -/
structure Pushes (hi lo : Byte) (pc : Word) (s t : State) : Prop where
  sp : t.sp = s.sp - 2
  pc : t.pc = pc
  stores : StoresPair s t (s.sp - 2) lo hi
  bus : Accesses s t [.write (s.sp - 1) hi, .write (s.sp - 2) lo]
  regs : KeepsRegs [] s t
  flags : KeepsFlags s t
  imeMode : KeepsImeMode s t
  cycles : t.cycleCount = s.cycleCount + 12

theorem pushes_setPc (s : State) (v pc : Word) :
    Pushes (hiByte v) (loByte v) pc s (((s.internal 1).push16 v).setPc pc) where
  sp := rfl
  pc := rfl
  stores := storesPair_push16 (s.internal 1) v
  bus := ⟨rfl, rfl⟩
  regs r _ := by simp [State.push16]
  flags := by simp [KeepsFlags, State.push16]
  imeMode := by simp [KeepsImeMode, State.push16]
  cycles := by simp [State.push16]

theorem pushes_pushPair (s : State) (p : StackPair) :
    Pushes (hiByte (s.stackPair p)) (loByte (s.stackPair p)) s.pc s (s.pushPair p) :=
  pushes_setPc s (s.stackPair p) s.pc

theorem pushes_callTo (s : State) (target : Word) :
    Pushes (hiByte s.pc) (loByte s.pc) target s (s.callTo target) :=
  pushes_setPc s s.pc target

theorem Pushes.totalCycles {hi lo : Byte} {pc : Word} {s t : State} {i : Instr} {n : Nat} (h : Pushes hi lo pc s t)
    (hn : 12 + 4 * (encode i).length = n) : TotalCycles i s t n := by
  rw [TotalCycles, h.cycles, Nat.add_assoc, hn]

/-- Settles O50: the pair's two registers, or A and the flags of F, are pushed after one internal cycle. -/
theorem pushResult : Obligations.PushResult := by
  intro p s
  have hpush := pushes_pushPair s p
  refine ⟨s.pushPair p, exec_push p s, encode_push p, hpush.sp, ?_, ?_, hpush.regs, hpush.flags, hpush.pc,
    hpush.imeMode, hpush.totalCycles (by rw [encode_push]; rfl)⟩
  · cases p with
    | bc | de | hl => simpa [State.bc, State.de, State.hl] using hpush.stores
    | af => simpa [State.af, State.readF] using hpush.stores
  · cases p with
    | bc | de | hl => simpa [State.bc, State.de, State.hl] using hpush.bus
    | af => simpa [State.af, State.readF] using hpush.bus

/-! ### POP -/

theorem encode_pop (p : StackPair) : encode (Row.pop p) = [0xC1 + 16 * stackPairCode p] := by
  cases p <;> rfl

@[simp] theorem State.pop16_f (s : State) : s.pop16.2.f = s.f := by
  simp [State.pop16]

/-- A pop moves SP on by two, and of the rest of the state it only records its two reads. -/
theorem Frame.pop16 (s : State) : Frame [] (wordReads s s.sp) (s.setSp (s.sp + 2)) s.pop16.2 where
  regs r _ := by simp [State.pop16]
  control := ⟨rfl, rfl, rfl, rfl⟩
  memory _ := rfl
  bus := ⟨rfl, rfl⟩
  cycles := rfl

theorem hiByte_pop16 (s : State) : hiByte s.pop16.1 = secondAnswer s s.sp (s.sp + 1) := hiByte_mkWord ..

theorem loByte_pop16 (s : State) : loByte s.pop16.1 = answer s s.sp := loByte_mkWord ..

theorem Frame.writeF {written : List Reg8} {accesses : List BusAccess} {s t : State} (h : Frame written accesses s t)
    (v : Byte) : Frame written accesses s (t.writeF v) where
  regs r hr := (State.writeF_reg8 t v r).trans (h.regs r hr)
  control := h.control
  memory := h.memory
  bus := h.bus
  cycles := h.cycles

/-- The registers that POP writes, F apart. -/
def poppedRegs : StackPair → List Reg8
  | .bc => [.b, .c]
  | .de => [.d, .e]
  | .hl => [.h, .l]
  | .af => [.a]

/-- A frame that allows more registers to be written. -/
theorem Frame.mono {written written' : List Reg8} {accesses : List BusAccess} {s t : State}
    (h : Frame written accesses s t) (hsub : written ⊆ written') : Frame written' accesses s t :=
  { h with regs := fun r hr => h.regs r (mt (@hsub r) hr) }

theorem Frame.popPair (s : State) (p : StackPair) :
    Frame (poppedRegs p) (wordReads s s.sp) (s.setSp (s.sp + 2)) (s.popPair p) := by
  cases p with
  | bc => exact (((Frame.pop16 s).setReg8 .b _).setReg8 .c _).mono (by decide)
  | de => exact (((Frame.pop16 s).setReg8 .d _).setReg8 .e _).mono (by decide)
  | hl => exact (((Frame.pop16 s).setReg8 .h _).setReg8 .l _).mono (by decide)
  | af => exact ((Frame.pop16 s).setReg8 ..).writeF ..

theorem popPair_f (s : State) (p : StackPair) : (s.popPair p).f = if p = .af then answer s s.sp &&& 0xF0 else s.f := by
  rw [State.popPair, State.setStackPair_f, loByte_pop16, State.pop16_f]

theorem flagsAre_writeF (s : State) (v : Byte) :
    FlagsAre (s.writeF v) (v.getLsbD 7) (v.getLsbD 6) (v.getLsbD 5) (v.getLsbD 4) := by
  simp [FlagsAre]

/-- Settles O51: the popped word is written to the pair, whose low half F takes without its low nibble. -/
theorem popResult : Obligations.PopResult := by
  intro p s
  have hframe := Frame.popPair s p
  obtain ⟨hsp, hpc, himeMode⟩ := hframe.control
  have hregs : KeepsRegs (poppedRegs p) s (s.popPair p) := hframe.regs
  have hcycles : TotalCycles (Row.pop p) s (s.popPair p) 12 := by
    rw [TotalCycles, hframe.cycles, encode_pop]
    rfl
  refine ⟨s.popPair p, exec_pop p s, encode_pop p, hsp, ?_, hframe.bus, hframe.memory, hpc, himeMode, hcycles⟩
  cases p with
  | bc | de | hl => exact ⟨hiByte_pop16 s, loByte_pop16 s, hregs, popPair_f s _⟩
  | af => exact ⟨hiByte_pop16 s, hregs, loByte_pop16 s ▸ flagsAre_writeF ..⟩

/-! ### PUSH and then POP -/

/-- A pop of two bytes of RAM gives what memory holds there. -/
theorem pop16_fst_of_ram {s : State} (hlo : s.bus.kindAt s.sp = .ram) (hhi : s.bus.kindAt (s.sp + 1) = .ram) :
    s.pop16.1 = mkWord (s.byteAt (s.sp + 1)) (s.byteAt s.sp) := by
  rw [State.pop16_eq, Bus.read_fst _ _ (by rw [Bus.read_kindAt, hhi]; decide), Bus.read_fst _ _ (by rw [hlo]; decide)]
  rfl

/-- On a stack in RAM the word popped is the pair pushed. -/
theorem pop16_pushPair_fst {s : State} (p : StackPair) (hhi : s.bus.kindAt (s.sp - 1) = .ram)
    (hlo : s.bus.kindAt (s.sp - 2) = .ram) : (s.pushPair p).pop16.1 = s.stackPair p := by
  have hpush := pushes_pushPair s p
  obtain ⟨hstoredLo, hstoredHi, -⟩ := hpush.stores
  rw [if_pos hlo] at hstoredLo
  rw [word_sub_two_add_one, if_pos hhi] at hstoredHi
  have hkind (a : Word) : (s.pushPair p).bus.kindAt a = s.bus.kindAt a := rfl
  rw [pop16_fst_of_ram, hpush.sp, word_sub_two_add_one, hstoredHi, hstoredLo, mkWord_hiByte_loByte]
  · rw [hkind, hpush.sp, hlo]
  · rw [hkind, hpush.sp, word_sub_two_add_one, hhi]

/-- A pair written with what it holds: only the low nibble of F may change. -/
theorem setStackPair_stackPair (s : State) (p : StackPair) :
    s.setStackPair p (s.stackPair p) = if p = .af then s.writeF s.readF else s := by
  cases p <;>
    simp only [State.setStackPair, State.setPair, State.stackPair, State.bc, State.de, State.hl, State.af,
      hiByte_mkWord, loByte_mkWord] <;>
    rfl

theorem setStackPair_stackPair_reg8 (s : State) (p : StackPair) (r : Reg8) :
    (s.setStackPair p (s.stackPair p)).reg8 r = s.reg8 r := by
  rw [setStackPair_stackPair]
  split
  · exact s.writeF_reg8 s.readF r
  · rfl

theorem setStackPair_stackPair_readF (s : State) (p : StackPair) :
    (s.setStackPair p (s.stackPair p)).readF = s.readF := by
  rw [setStackPair_stackPair]
  split
  · simp [State.readF, BitVec.and_assoc]
  · rfl

theorem stackPair_congr {s t : State} (hregs : KeepsRegs [] s t) (hf : KeepsFlags s t) (p : StackPair) :
    t.stackPair p = s.stackPair p := by
  have hreg (r : Reg8) : t.reg8 r = s.reg8 r := hregs r (by simp)
  cases p with
  | bc => exact congrArg₂ mkWord (hreg .b) (hreg .c)
  | de => exact congrArg₂ mkWord (hreg .d) (hreg .e)
  | hl => exact congrArg₂ mkWord (hreg .h) (hreg .l)
  | af => exact congrArg₂ mkWord (hreg .a) (congrArg (· &&& 0xF0) hf)

theorem keepsRegs_pop16_pushPair (s : State) (p : StackPair) : KeepsRegs [] s (s.pushPair p).pop16.2 := fun r hr =>
  ((Frame.pop16 (s.pushPair p)).regs r hr).trans ((pushes_pushPair s p).regs r hr)

theorem keepsFlags_pop16_pushPair (s : State) (p : StackPair) : KeepsFlags s (s.pushPair p).pop16.2 :=
  (s.pushPair p).pop16_f.trans (pushes_pushPair s p).flags

/-- On a stack in RAM, POP after PUSH writes the pair with what it holds. -/
theorem popPair_pushPair {s : State} (p : StackPair) (hhi : s.bus.kindAt (s.sp - 1) = .ram)
    (hlo : s.bus.kindAt (s.sp - 2) = .ram) :
    (s.pushPair p).popPair p = (s.pushPair p).pop16.2.setStackPair p ((s.pushPair p).pop16.2.stackPair p) := by
  rw [State.popPair, pop16_pushPair_fst p hhi hlo,
    stackPair_congr (keepsRegs_pop16_pushPair s p) (keepsFlags_pop16_pushPair s p)]

/-- Settles O52: the word popped is the pair that was pushed, and SP is back where it was. -/
theorem pushThenPopRestores : Obligations.PushThenPopRestores := by
  intro p s hhi hlo
  have hpush := pushes_pushPair s p
  obtain ⟨hsp, hpc, hime, hmode⟩ := (Frame.popPair (s.pushPair p) p).control
  refine ⟨s.pushPair p, (s.pushPair p).popPair p, exec_push p s, exec_pop p _, fun r hr => ?_, ?_,
    hsp.trans ?_, hpc.trans hpush.pc, hime.trans hpush.imeMode.1, hmode.trans hpush.imeMode.2⟩
  · rw [popPair_pushPair p hhi hlo, setStackPair_stackPair_reg8]
    exact keepsRegs_pop16_pushPair s p r hr
  · rw [popPair_pushPair p hhi hlo, setStackPair_stackPair_readF]
    exact congrArg (· &&& 0xF0) (keepsFlags_pop16_pushPair s p)
  · rw [State.setSp_sp, hpush.sp, BitVec.sub_add_cancel]

end Sys2Proof.Machine
end

section
/-! Calls, restarts and returns (46_stack.md R240; 47_control.md R250, R257 to R263). -/

namespace Sys2Proof.Machine

open Sys2Proof.Claim

/-! ### Conditions -/

theorem cond_iff_holds (s : State) (cc : Cond) : s.cond cc = true ↔ Holds s cc := by
  cases cc <;> simp [State.cond, State.zf, State.cf, Holds]

theorem whenCond_of_holds {s : State} {cc : Cond} (h : Holds s cc) (taken : State) : s.whenCond cc taken = taken :=
  if_pos ((cond_iff_holds s cc).mpr h)

theorem whenCond_of_not_holds {s : State} {cc : Cond} (h : ¬ Holds s cc) (taken : State) : s.whenCond cc taken = s :=
  if_neg (mt (cond_iff_holds s cc).mp h)

/-! ### CALL and RST -/

theorem encode_callCc (cc : Cond) (nn : Word) :
    encode (Row.callCc cc nn) = (0xC4 + 8 * condCode cc) :: wordBytes nn := by
  rw [wordBytes_eq]
  cases cc <;> rfl

theorem encode_rst : ∀ row ∈ Row.rst, encode row.1 = [0xC7 + BitVec.ofNat 8 row.2.toNat] := by
  decide

/-- What a push and the new PC leave in the state, as the statements about CALL and RST claim it. -/
theorem Pushes.claims {hi lo : Byte} {target : Word} {s t : State} {i : Instr} {n : Nat}
    (h : Pushes hi lo target s t) (hn : 12 + 4 * (encode i).length = n) :
    t.pc = target ∧ t.sp = s.sp - 2 ∧ StoresPair s t (s.sp - 2) lo hi ∧
      Accesses s t [.write (s.sp - 1) hi, .write (s.sp - 2) lo] ∧ KeepsRegs [] s t ∧ KeepsFlags s t ∧
      KeepsImeMode s t ∧ TotalCycles i s t n :=
  ⟨h.pc, h.sp, h.stores, h.bus, h.regs, h.flags, h.imeMode, h.totalCycles hn⟩

/-- Settles O55: all are one call, CALL cc where its condition holds. -/
theorem callsAndRestarts : Obligations.CallsAndRestarts := by
  intro nn s
  simp only [← loByte_eq_ofNat, ← hiByte_eq_ofNat, wordBytes_eq]
  refine ⟨⟨s.callTo nn, rfl, rfl, (pushes_callTo s nn).claims rfl⟩,
    fun cc => ⟨_, exec_callCc cc nn s, ?_, fun hcc => ?_, fun hcc => ?_⟩,
    fun row hrow => ⟨s.callTo row.2, exec_rst hrow s, encode_rst row hrow, (pushes_callTo s row.2).claims ?_⟩, rfl⟩
  · rw [encode_callCc, wordBytes_eq]
  · rw [whenCond_of_holds hcc]
    exact (pushes_callTo s nn).claims (by rw [encode_callCc]; rfl)
  · rw [whenCond_of_not_holds hcc]
    exact ⟨rfl, by rw [TotalCycles, encode_callCc]; rfl⟩
  · rw [encode_rst row hrow]; rfl

/-! ### RET and RETI -/

theorem encode_retCc (cc : Cond) : encode (Row.retCc cc) = [0xC0 + 8 * condCode cc] := by
  cases cc <;> rfl

/-- The state a return leaves: PC is the word popped, and `n` internal cycles are charged. -/
def State.returned (s : State) (n : Nat) (ime : Bool) : State :=
  ((s.pop16.2.internal n).setPc s.pop16.1).setIme ime

theorem exec_ret (s : State) : exec .ret s = .next (s.returned 1 s.ime) := rfl

theorem exec_reti (s : State) : exec .reti s = .next (s.returned 1 true) := rfl

/-- A taken RET cc charges a second internal cycle. -/
theorem returnWhen_of_holds {s : State} {cc : Cond} (h : Holds s cc) : s.returnWhen cc = s.returned 2 s.ime := by
  have hcc : Holds (s.internal 1) cc := by rwa [← cond_iff_holds, State.internal_cond, cond_iff_holds]
  rw [State.returnWhen, whenCond_of_holds hcc, State.returnToStack_eq]
  simp [State.returned, State.pop16_eq, State.internal, State.setPc, State.setIme, Nat.add_assoc]

theorem returnWhen_of_not_holds {s : State} {cc : Cond} (h : ¬ Holds s cc) : s.returnWhen cc = s.internal 1 := by
  have hcc : ¬ Holds (s.internal 1) cc := by rwa [← cond_iff_holds, State.internal_cond, cond_iff_holds]
  exact whenCond_of_not_holds hcc _

/-- What a return leaves in the state, as the statement about RET and RETI claims it. -/
theorem returned_claims {i : Instr} {n total : Nat} {ime : Bool} {s t : State} (ht : t = s.returned n ime)
    (htotal : 8 + 4 * n + 4 * (encode i).length = total) :
    t.pc = wordAnswer s s.sp ∧ t.sp = s.sp + 2 ∧ Accesses s t (wordReads s s.sp) ∧ KeepsMemory s t ∧
      KeepsRegs [] s t ∧ KeepsFlags s t ∧ t.ime = ime ∧ t.mode = s.mode ∧ TotalCycles i s t total := by
  subst ht
  have hpop := Frame.pop16 s
  obtain ⟨hsp, -, -, hmode⟩ := hpop.control
  refine ⟨mkWord_eq_ofNat .., hsp, hpop.bus, hpop.memory, fun r hr => ?_, s.pop16_f, rfl, hmode, ?_⟩
  · simpa [State.returned] using hpop.regs r hr
  · have hcount : (s.returned n ime).cycleCount = s.cycleCount + 8 + 4 * n := rfl
    rw [TotalCycles, hcount]
    omega

/-- Settles O56: all are one return, which RETI follows by setting ime and RET cc precedes by an internal cycle. -/
theorem returns : Obligations.Returns := by
  intro s
  refine ⟨⟨_, exec_ret s, rfl, returned_claims rfl rfl⟩, ⟨_, exec_reti s, rfl, returned_claims rfl rfl⟩,
    fun cc => ⟨_, exec_retCc cc s, encode_retCc cc, fun hcc => ?_, fun hcc => ?_⟩⟩
  · exact returned_claims (returnWhen_of_holds hcc) (by rw [encode_retCc]; rfl)
  · rw [returnWhen_of_not_holds hcc]
    exact ⟨rfl, by rw [TotalCycles, encode_retCc]; rfl⟩

end Sys2Proof.Machine
end

section
/-! Jumps, absolute and relative (47_control.md R250 to R256). -/

namespace Sys2Proof.Machine

open Sys2Proof.Claim

/-! ### Encodings -/

theorem encode_jpCc (cc : Cond) (nn : Word) :
    encode (Row.jpCc cc nn) = (0xC2 + 8 * condCode cc) :: wordBytes nn := by
  rw [wordBytes_eq]
  cases cc <;> rfl

theorem encode_jrCc (cc : Cond) (e : Byte) : encode (Row.jrCc cc e) = [0x20 + 8 * condCode cc, e] := by
  cases cc <;> rfl

/-! ### What a jump leaves in the state -/

/-- A jump taken costs the fetch and one internal cycle. -/
theorem totalCycles_jumpTo {i : Instr} {s : State} {target : Word} {n : Nat} (hn : 4 + 4 * (encode i).length = n) :
    TotalCycles i s (s.jumpTo target) n := by
  rw [TotalCycles, State.jumpTo_eq, Nat.add_assoc, hn]

/-- A jump not taken costs the fetch alone. -/
theorem totalCycles_self {i : Instr} {s : State} {n : Nat} (hn : 4 * (encode i).length = n) : TotalCycles i s s n := by
  rw [TotalCycles, hn]

/-- A relative jump taken, as the statement about JR and JR cc claims it. -/
theorem jumpTo_sext16_claims {i : Instr} {e : Byte} {s t : State} (ht : t = s.jumpTo (s.pc + sext16 e))
    (hn : 4 + 4 * (encode i).length = 12) :
    t = { s with pc := t.pc, cycleCount := t.cycleCount } ∧
      (t.pc.toNat : Int) = ((s.pc.toNat : Int) + e.toInt) % 65536 ∧ TotalCycles i s t 12 := by
  subst ht
  exact ⟨rfl, toNat_add_sext16 s.pc e, totalCycles_jumpTo hn⟩

/-! ### The statements -/

/-- Settles O53: JP is one jump, JP cc the same where its condition holds, and JP HL sets PC to HL alone. -/
theorem jumps : Obligations.Jumps := by
  intro nn s
  refine ⟨⟨s.jumpTo nn, rfl, by rw [wordBytes_eq]; rfl, rfl, totalCycles_jumpTo rfl⟩,
    fun cc => ⟨_, exec_jpCc cc nn s, encode_jpCc cc nn, fun hcc => ?_, fun hcc => ?_⟩,
    ⟨s.setPc s.hl, rfl, rfl, rfl, toNat_mkWord s.h s.l, rfl⟩⟩
  · rw [whenCond_of_holds hcc]
    exact ⟨rfl, totalCycles_jumpTo (by rw [encode_jpCc]; rfl)⟩
  · rw [whenCond_of_not_holds hcc]
    exact ⟨rfl, totalCycles_self (by rw [encode_jpCc]; rfl)⟩

/-- Settles O54: JR is one jump to the signed sum, and JR cc the same where its condition holds. -/
theorem relativeJumps : Obligations.RelativeJumps := by
  intro e s
  refine ⟨⟨_, rfl, rfl, jumpTo_sext16_claims rfl rfl⟩,
    fun cc => ⟨_, exec_jrCc cc e s, encode_jrCc cc e, fun hcc => ?_, fun hcc => ?_⟩⟩
  · exact jumpTo_sext16_claims (whenCond_of_holds hcc _) (by rw [encode_jrCc]; rfl)
  · rw [whenCond_of_not_holds hcc]
    exact ⟨rfl, totalCycles_self (by rw [encode_jrCc]; rfl)⟩

end Sys2Proof.Machine
end

section
/-! The CB prefix and the instructions on IME and the mode (48_system.md R280 to R285). -/

namespace Sys2Proof.Machine

open Sys2Proof.Claim

/-! ### The state after each instruction -/

theorem exec_nop (s : State) : exec .nop s = .next s := rfl

theorem exec_di (s : State) : exec .di s = .next { s with ime := false } := rfl

theorem exec_ei (s : State) : exec .ei s = .next { s with ime := true } := rfl

theorem exec_halt (s : State) : exec .halt s = .next { s with mode := .halted } := rfl

/-- The second byte of STOP has no part in the next state. -/
theorem exec_stop (x : Byte) (s : State) : exec (.stop x) s = .next { s with mode := .stopped } := rfl

/-! ### Their cycles -/

/-- An instruction that leaves the counter as its fetch did costs the fetch alone. -/
theorem totalCycles_of_cycleCount_eq {i : Instr} {s t : State} {n : Nat} (ht : t.cycleCount = s.cycleCount)
    (hn : 4 * (encode i).length = n) : TotalCycles i s t n := by
  rw [TotalCycles, ht, hn]

/-! ### The statements -/

/-- Settles O7: the decoder reads the second byte by the CB table, a row of which has a next state whatever the state it
starts in, and the row of the prefix means the same. -/
theorem prefixRunsSelectedInstruction : Obligations.PrefixRunsSelectedInstruction := by
  intro cbop more
  obtain ⟨op, hexec, -⟩ := isOrdinary_decodeCb cbop
  refine ⟨decodeCb cbop, decode_cb rfl more, fun s => ⟨op s, hexec s, ?_⟩⟩
  rw [exec_prefixCb, hexec]

/-- Settles O57: neither touches the cycle counter, and DI writes ime alone. -/
theorem nopAndDi : Obligations.NopAndDi := by
  intro s
  exact ⟨⟨_, exec_nop s, rfl, rfl, totalCycles_self rfl⟩,
    ⟨_, exec_di s, rfl, rfl, totalCycles_of_cycleCount_eq rfl rfl⟩⟩

/-- Settles O58: EI writes ime alone, HALT and STOP the mode alone, and STOP costs the fetch of two bytes. -/
theorem eiHaltAndStop : Obligations.EiHaltAndStop := by
  intro x s
  exact ⟨⟨_, exec_ei s, rfl, rfl, totalCycles_of_cycleCount_eq rfl rfl⟩,
    ⟨_, exec_halt s, rfl, rfl, totalCycles_of_cycleCount_eq rfl rfl⟩,
    ⟨_, exec_stop x s, rfl, rfl, totalCycles_of_cycleCount_eq rfl rfl⟩⟩

end Sys2Proof.Machine
end

section
/-! What an instruction is charged, against the cycles of the opcode table: 4 cycles for each byte fetched, for each
other bus access and for each internal cycle (70_reset_and_hazards.md R350 to R354). -/

namespace Sys2Proof.Machine

open Sys2Proof.Claim

/-- From `s` to `t`, `n` bus accesses are made and `k` internal cycles pass, each charged 4 cycles, and the bus's windows
stay. -/
def Spends (n k : Nat) (s t : State) : Prop :=
  ∃ accesses, accesses.length = n ∧ Accesses s t accesses ∧ t.cycleCount = s.cycleCount + 4 * (n + k)

/-! ### What the meanings spend -/

section
variable {s t : State}

theorem Spends.of_internal {k : Nat} (hbus : t.bus = s.bus) (hcycles : t.cycleCount = s.cycleCount + 4 * k) :
    Spends 0 k s t :=
  ⟨[], rfl, by simp [Accesses, hbus], by rw [Nat.zero_add, hcycles]⟩

theorem Spends.of_write {addr : Word} {v : Byte} (hbus : t.bus = s.bus.write addr v)
    (hcycles : t.cycleCount = s.cycleCount + 4) : Spends 1 0 s t :=
  ⟨[.write addr v], rfl, by simp [Accesses, hbus], hcycles⟩

theorem Frame.spends {written : List Reg8} {accesses : List BusAccess} (h : Frame written accesses s t) :
    Spends accesses.length 0 s t :=
  ⟨accesses, rfl, h.bus, h.cycles⟩

theorem SetsPair.spends {p : Pair} {v : Word} {k : Nat} (h : SetsPair p v k s t) : Spends 0 k s t :=
  ⟨[], rfl, h.bus, by rw [Nat.zero_add, h.cycles]⟩

theorem Spends.setPair {n k : Nat} (h : Spends n k s t) (p : Pair) (v : Word) : Spends n k s (t.setPair p v) := by
  obtain ⟨accesses, hlen, hbus, hcycles⟩ := h
  exact ⟨accesses, hlen, by simpa [Accesses] using hbus, by simpa using hcycles⟩

theorem Pushes.spends {hi lo : Byte} {pc : Word} (h : Pushes hi lo pc s t) : Spends 2 1 s t :=
  ⟨_, rfl, h.bus, h.cycles⟩

end

/-- The bus accesses that reading an ALU operand makes (41_alu8.md R110). -/
def srcAccesses : Src8 → Nat
  | .atHl => 1
  | .reg _ | .imm _ => 0

/-- The bus accesses of one `get(z)` or `put(z, v)` (43_rotate_shift.md R170). -/
def locAccesses : Loc8 → Nat
  | .atHl => 1
  | .reg _ => 0

theorem length_operandReads (s : State) (src : Src8) : (operandReads s src).length = srcAccesses src := by
  cases src <;> rfl

theorem spends_aluOp (s : State) (op : AluOp) (src : Src8) : Spends (srcAccesses src) 0 s (s.aluOp op src) := by
  rw [← length_operandReads s src]
  cases op with
  | add | adc => exact (frame_addToA ..).spends
  | sub | sbc => exact (frame_subFromA ..).spends
  | and | xor | or => exact (frame_logicResult ..).spends
  | cp => exact (frame_compareA ..).spends

theorem spends_testBit (s : State) (b : BitVec 3) (z : Loc8) : Spends (locAccesses z) 0 s (s.testBit b z) := by
  cases z with
  | reg r => exact (frame_testBit s b (.reg r)).spends
  | atHl => exact (frame_testBit s b .atHl).spends

theorem spends_putBack (s : State) (z : Loc8) (v : Byte) : Spends (2 * locAccesses z) 0 s (s.putBack z v) := by
  cases z with
  | reg r => exact .of_internal (State.setReg8_bus s r v) (State.setReg8_cycleCount s r v)
  | atHl => exact ⟨[.read s.hl (answer s s.hl), .write s.hl v], rfl, ⟨rfl, rfl⟩, rfl⟩

theorem spends_putAndFlag (s : State) (z : Loc8) (v : Byte) (zf nf hf cf : Bool) :
    Spends (2 * locAccesses z) 0 s (s.putAndFlag z v zf nf hf cf) :=
  spends_putBack s z v

theorem spends_loadFrom (s : State) (dst : Reg8) (addr : Word) : Spends 1 0 s (s.loadFrom dst addr) :=
  (Frame.loadFrom s dst addr).spends

theorem spends_storeWord (s : State) (addr v : Word) : Spends 2 0 s (s.storeWord addr v) :=
  ⟨[.write addr (loByte v), .write (addr + 1) (hiByte v)], rfl, ⟨rfl, rfl⟩, rfl⟩

theorem spends_jumpTo (s : State) (target : Word) : Spends 0 1 s (s.jumpTo target) :=
  .of_internal rfl rfl

theorem spends_returned (s : State) (k : Nat) (ime : Bool) : Spends 2 k s (s.returned k ime) :=
  ⟨wordReads s s.sp, rfl, ⟨rfl, rfl⟩, by simp [State.returned, State.pop16_eq]; omega⟩

/-! ### The rows of the table -/

/-- The table has no condition for the instruction, and charges the bytes fetched, `n` other bus accesses and `k`
internal cycles. -/
abbrev CostsAlways (i : Instr) (n k : Nat) : Prop :=
  i.condition = none ∧ i.cycles = some ⟨4 * (i.length + n + k), 4 * (i.length + n + k)⟩

/-- The table charges the bytes fetched and, where the condition holds, `n` other bus accesses and `k` internal cycles,
else `j` internal cycles. -/
abbrev CostsWhen (cc : Cond) (i : Instr) (n k j : Nat) : Prop :=
  i.condition = some cc ∧ i.cycles = some ⟨4 * (i.length + n + k), 4 * (i.length + j)⟩

theorem costsAlways_ldRR (dst src : Reg8) : CostsAlways (Row.ldRR dst src) 0 0 := by
  cases dst <;> cases src <;> exact ⟨rfl, rfl⟩

theorem costsAlways_ldRD8 (dst : Reg8) (n : Byte) : CostsAlways (Row.ldRD8 dst n) 0 0 := by
  cases dst <;> exact ⟨rfl, rfl⟩

theorem costsAlways_ldRAtHl (dst : Reg8) : CostsAlways (Row.ldRAtHl dst) 1 0 := by cases dst <;> exact ⟨rfl, rfl⟩

theorem costsAlways_ldAtHlR (src : Reg8) : CostsAlways (Row.ldAtHlR src) 1 0 := by cases src <;> exact ⟨rfl, rfl⟩

theorem costsAlways_inc8 (z : Loc8) : CostsAlways (Row.inc8 z) (2 * locAccesses z) 0 := by
  rcases z with r | _
  · cases r <;> exact ⟨rfl, rfl⟩
  · exact ⟨rfl, rfl⟩

theorem costsAlways_dec8 (z : Loc8) : CostsAlways (Row.dec8 z) (2 * locAccesses z) 0 := by
  rcases z with r | _
  · cases r <;> exact ⟨rfl, rfl⟩
  · exact ⟨rfl, rfl⟩

theorem costsAlways_alu (op : AluOp) (src : Src8) : CostsAlways (Row.alu op src) (srcAccesses src) 0 := by
  rcases src with r | _ | n
  · cases op <;> cases r <;> exact ⟨rfl, rfl⟩
  · cases op <;> exact ⟨rfl, rfl⟩
  · cases op <;> exact ⟨rfl, rfl⟩

theorem costsAlways_ldPairD16 (p : Pair) (nn : Word) : CostsAlways (Row.ldPairD16 p nn) 0 0 := by
  cases p <;> exact ⟨rfl, rfl⟩

theorem costsAlways_incPair (p : Pair) : CostsAlways (Row.incPair p) 0 1 := by cases p <;> exact ⟨rfl, rfl⟩

theorem costsAlways_decPair (p : Pair) : CostsAlways (Row.decPair p) 0 1 := by cases p <;> exact ⟨rfl, rfl⟩

theorem costsAlways_addHlPair (p : Pair) : CostsAlways (Row.addHlPair p) 0 1 := by cases p <;> exact ⟨rfl, rfl⟩

theorem costsAlways_push (p : StackPair) : CostsAlways (Row.push p) 2 1 := by cases p <;> exact ⟨rfl, rfl⟩

theorem costsAlways_pop (p : StackPair) : CostsAlways (Row.pop p) 2 0 := by cases p <;> exact ⟨rfl, rfl⟩

theorem costsAlways_rot (op : RotOp) (z : Loc8) : CostsAlways (Row.rot op z) (2 * locAccesses z) 0 := by
  cases op <;> cases z <;> exact ⟨rfl, rfl⟩

theorem costsAlways_bit (b : BitVec 3) (z : Loc8) : CostsAlways (Row.bit b z) (locAccesses z) 0 := by
  cases z <;> exact ⟨rfl, rfl⟩

theorem costsAlways_res (b : BitVec 3) (z : Loc8) : CostsAlways (Row.res b z) (2 * locAccesses z) 0 := by
  cases z <;> exact ⟨rfl, rfl⟩

theorem costsAlways_set (b : BitVec 3) (z : Loc8) : CostsAlways (Row.set b z) (2 * locAccesses z) 0 := by
  cases z <;> exact ⟨rfl, rfl⟩

theorem costsAlways_rst {i : Instr} {target : Word} (hi : (i, target) ∈ Row.rst) : CostsAlways i 2 1 := by
  have every : ∀ row ∈ Row.rst, CostsAlways row.1 2 1 := by decide
  exact every _ hi

theorem costsAlways_illegal {i : Instr} {op : Byte} (hi : (i, op) ∈ Row.illegal) : CostsAlways i 0 0 := by
  have every : ∀ row ∈ Row.illegal, CostsAlways row.1 0 0 := by decide
  exact every _ hi

theorem costsWhen_jrCc (cc : Cond) (e : Byte) : CostsWhen cc (Row.jrCc cc e) 0 1 0 := by
  cases cc <;> exact ⟨rfl, rfl⟩

theorem costsWhen_jpCc (cc : Cond) (nn : Word) : CostsWhen cc (Row.jpCc cc nn) 0 1 0 := by
  cases cc <;> exact ⟨rfl, rfl⟩

theorem costsWhen_callCc (cc : Cond) (nn : Word) : CostsWhen cc (Row.callCc cc nn) 2 1 0 := by
  cases cc <;> exact ⟨rfl, rfl⟩

theorem costsWhen_retCc (cc : Cond) : CostsWhen cc (Row.retCc cc) 2 2 1 := by cases cc <;> exact ⟨rfl, rfl⟩

/-! ### The instructions -/

/-- The table's total for the instruction in the state: the one for the condition that holds there, if it has one
(70_reset_and_hazards.md R354). -/
def TableTotal (i : Instr) (s : State) (total : Nat) : Prop :=
  ∃ cost, i.cycles = some cost ∧ ((∀ cc, i.condition = some cc → Holds s cc) → total = cost.taken) ∧
    ∀ cc, i.condition = some cc → ¬ Holds s cc → total = cost.notTaken

/-- What executing the instruction spends, at most two internal cycles of it, is with its fetch the table's total. -/
def ChargesTable (i : Instr) : Prop :=
  ∀ s, ∃ t n k, exec i s = .next t ∧ Spends n k s t ∧ k ≤ 2 ∧ TableTotal i s (4 * (i.length + n + k))

section
variable {i : Instr} {op : State → State} {cc : Cond} {n k j : Nat}

theorem CostsAlways.tableTotal (h : CostsAlways i n k) (s : State) : TableTotal i s (4 * (i.length + n + k)) := by
  obtain ⟨hcondition, hcycles⟩ := h
  exact ⟨_, hcycles, fun _ => rfl, fun cc hcc => by simp [hcondition] at hcc⟩

theorem CostsWhen.tableTotal_of_holds (h : CostsWhen cc i n k j) {s : State} (hs : Holds s cc) :
    TableTotal i s (4 * (i.length + n + k)) := by
  obtain ⟨hcondition, hcycles⟩ := h
  refine ⟨_, hcycles, fun _ => rfl, fun cc' hcc' hnot => ?_⟩
  obtain rfl := Option.some.inj (hcondition.symm.trans hcc')
  exact absurd hs hnot

theorem CostsWhen.tableTotal_of_not_holds (h : CostsWhen cc i n k j) {s : State} (hs : ¬ Holds s cc) :
    TableTotal i s (4 * (i.length + 0 + j)) := by
  obtain ⟨hcondition, hcycles⟩ := h
  exact ⟨_, hcycles, fun hall => absurd (hall cc hcondition) hs, fun _ _ _ => rfl⟩

theorem ChargesTable.always (hexec : ∀ s, exec i s = .next (op s)) (hspends : ∀ s, Spends n k s (op s))
    (hcost : CostsAlways i n k) (hk : k ≤ 2 := by decide) : ChargesTable i :=
  fun s => ⟨op s, n, k, hexec s, hspends s, hk, hcost.tableTotal s⟩

theorem ChargesTable.conditional (hexec : ∀ s, exec i s = .next (op s))
    (htaken : ∀ s, Holds s cc → Spends n k s (op s)) (hnot : ∀ s, ¬ Holds s cc → Spends 0 j s (op s))
    (hcost : CostsWhen cc i n k j) (hk : k ≤ 2 := by decide) (hj : j ≤ 2 := by decide) : ChargesTable i := by
  intro s
  by_cases hs : Holds s cc
  · exact ⟨op s, n, k, hexec s, htaken s hs, hk, hcost.tableTotal_of_holds hs⟩
  · exact ⟨op s, 0, j, hexec s, hnot s hs, hj, hcost.tableTotal_of_not_holds hs⟩

/-- A transfer that does nothing where its condition does not hold (47_control.md R251). -/
theorem ChargesTable.whenCond (hexec : ∀ s, exec i s = .next (s.whenCond cc (op s)))
    (hspends : ∀ s, Spends n k s (op s)) (hcost : CostsWhen cc i n k 0) (hk : k ≤ 2 := by decide) :
    ChargesTable i := by
  refine .conditional hexec (fun s hs => ?_) (fun s hs => ?_) hcost hk
  · rw [whenCond_of_holds hs]
    exact hspends s
  · rw [whenCond_of_not_holds hs]
    exact .of_internal rfl rfl

end

/-- Every row of the table holds of its instruction, the prefix's apart, which has no total of its own. -/
theorem chargesTable {i : Instr} (hi : i.wellFormed = true) : ChargesTable i := by
  cases i.isRow with
  | prefixCb cbop => cases hi
  -- the rows with a condition
  | jrCc cc e => exact .whenCond (exec_jrCc cc e) (fun s => spends_jumpTo s _) (costsWhen_jrCc cc e)
  | jpCc cc nn => exact .whenCond (exec_jpCc cc nn) (fun s => spends_jumpTo s nn) (costsWhen_jpCc cc nn)
  | callCc cc nn => exact .whenCond (exec_callCc cc nn) (fun s => (pushes_callTo s nn).spends) (costsWhen_callCc cc nn)
  | retCc cc =>
    refine .conditional (exec_retCc cc) (fun s hs => ?_) (fun s hs => ?_) (costsWhen_retCc cc)
    · rw [returnWhen_of_holds hs]
      exact spends_returned s 2 s.ime
    · rw [returnWhen_of_not_holds hs]
      exact .of_internal rfl rfl
  -- the rows of the 8-bit operands
  | ldRR dst src =>
    exact .always (exec_ldRR dst src) (fun s => ((Frame.refl s).setReg8 dst _).spends) (costsAlways_ldRR dst src)
  | ldRD8 dst n =>
    exact .always (exec_ldRD8 dst n) (fun s => ((Frame.refl s).setReg8 dst n).spends) (costsAlways_ldRD8 dst n)
  | ldRAtHl dst =>
    exact .always (exec_ldRAtHl dst) (fun s => spends_loadFrom s dst s.hl) (costsAlways_ldRAtHl dst)
  | ldAtHlR src => exact .always (exec_ldAtHlR src) (fun _ => .of_write rfl rfl) (costsAlways_ldAtHlR src)
  | inc8 z => exact .always (exec_inc8 z) (fun s => spends_putAndFlag s z ..) (costsAlways_inc8 z)
  | dec8 z => exact .always (exec_dec8 z) (fun s => spends_putAndFlag s z ..) (costsAlways_dec8 z)
  | alu op src => exact .always (exec_alu op src) (fun s => spends_aluOp s op src) (costsAlways_alu op src)
  | rot op z => exact .always (exec_rot op z) (fun s => spends_putAndFlag s z ..) (costsAlways_rot op z)
  | bit b z => exact .always (exec_bit b z) (fun s => spends_testBit s b z) (costsAlways_bit b z)
  | res b z => exact .always (exec_res b z) (fun s => spends_putBack s z _) (costsAlways_res b z)
  | set b z => exact .always (exec_set b z) (fun s => spends_putBack s z _) (costsAlways_set b z)
  -- the rows of the pairs
  | ldPairD16 p nn =>
    exact .always (exec_ldPairD16 p nn) (fun s => (setsPair_setPair s p nn).spends) (costsAlways_ldPairD16 p nn)
  | incPair p => exact .always (exec_incPair p) (fun s => (setsPair_incPair s p).spends) (costsAlways_incPair p)
  | decPair p => exact .always (exec_decPair p) (fun s => (setsPair_decPair s p).spends) (costsAlways_decPair p)
  | addHlPair p => exact .always (exec_addHlPair p) (fun s => (setsPair_addHl s p).spends) (costsAlways_addHlPair p)
  | push p => exact .always (exec_push p) (fun s => (pushes_pushPair s p).spends) (costsAlways_push p)
  | pop p => exact .always (exec_pop p) (fun s => (Frame.popPair s p).spends) (costsAlways_pop p)
  | rst hi => exact .always (exec_rst hi) (fun s => (pushes_callTo s _).spends) (costsAlways_rst hi)
  | illegal hi => exact .always (exec_illegal hi) (fun _ => .of_internal rfl rfl) (costsAlways_illegal hi)
  -- the rows that stand alone
  | nop | stop x | halt | di | ei | jpHl | rlca | rrca | rla | rra | daa | cpl | scf | ccf =>
    exact .always (k := 0) (fun _ => rfl) (fun _ => .of_internal rfl rfl) ⟨rfl, rfl⟩
  | jrE8 e | jpA16 nn | ldSpHl | ldHlSpE8 e =>
    exact .always (k := 1) (fun _ => rfl) (fun _ => .of_internal rfl rfl) ⟨rfl, rfl⟩
  | addSpE8 e => exact .always (k := 2) (fun _ => rfl) (fun _ => .of_internal rfl rfl) ⟨rfl, rfl⟩
  | ldAtHlD8 n | ldhAtA8A n | ldAtA16A nn | ldAtBcA | ldAtDeA | ldAtHlIncA | ldAtHlDecA | ldAtCA =>
    exact .always (fun _ => rfl) (fun _ => .of_write rfl rfl) ⟨rfl, rfl⟩
  | ldhAAtA8 n | ldAAtA16 nn | ldAAtBc | ldAAtDe | ldAAtC =>
    exact .always (fun _ => rfl) (fun s => spends_loadFrom s .a _) ⟨rfl, rfl⟩
  | ldAAtHlInc | ldAAtHlDec =>
    exact .always (fun _ => rfl) (fun s => (spends_loadFrom s .a s.hl).setPair .hl _) ⟨rfl, rfl⟩
  | ldAtA16Sp nn => exact .always (fun _ => rfl) (fun s => spends_storeWord s nn s.sp) ⟨rfl, rfl⟩
  | callA16 nn => exact .always (fun _ => rfl) (fun s => (pushes_callTo s nn).spends) ⟨rfl, rfl⟩
  | ret => exact .always exec_ret (fun s => spends_returned s 1 s.ime) ⟨rfl, rfl⟩
  | reti => exact .always exec_reti (fun s => spends_returned s 1 true) ⟨rfl, rfl⟩

/-- What any instruction spends: the prefix row spends what the instruction of its second byte does. -/
theorem exec_spends (i : Instr) (s : State) : ∃ t n k, exec i s = .next t ∧ Spends n k s t ∧ k ≤ 2 := by
  by_cases hi : i.wellFormed = true
  · obtain ⟨t, n, k, hexec, hspends, hk, -⟩ := chargesTable hi s
    exact ⟨t, n, k, hexec, hspends, hk⟩
  · obtain ⟨cbop, rfl⟩ := exists_prefixCb_of_not_wellFormed hi
    obtain ⟨t, n, k, hexec, hspends, hk, -⟩ := chargesTable (wellFormed_decodeCb cbop) s
    exact ⟨t, n, k, (exec_prefixCb cbop s).trans hexec, hspends, hk⟩

/-- Settles O20: the accesses and internal cycles of every row's meaning, or of the CB row that the prefix selects. -/
theorem cyclesAreAccessesAndInternal : Obligations.CyclesAreAccessesAndInternal := by
  intro i s
  obtain ⟨t, n, k, hexec, ⟨accesses, rfl, ⟨htrace, hregions⟩, hcycles⟩, hk⟩ := exec_spends i s
  exact ⟨t, accesses.reverse, k, hexec, hk, htrace, hregions, by rw [hcycles, List.length_reverse]⟩

end Sys2Proof.Machine
end

section
/-! What a step reports, and where a run stops (60_exceptions.md R300 to R312, 70_reset_and_hazards.md R353 to R356). -/

namespace Sys2Proof.Machine

open Sys2Proof.Claim

/-! ### The report of a step -/

section
variable {s t : State} {e : CoreError}

theorem stepReport_of_faulted (h : step s = .next t) (ht : t.mode = .faulted e) : stepReport s = (t, .err e) := by
  simp only [stepReport, h, ht]

theorem stepReport_of_not_faulted (h : step s = .next t) (ht : ∀ e, t.mode ≠ .faulted e) :
    stepReport s = (t, .ok (t.cycleCount - s.cycleCount)) := by
  simp only [stepReport, h]
  cases hm : t.mode with
  | running | halted | stopped => rfl
  | faulted e => exact absurd hm (ht e)

theorem stepReport_of_fault (h : step s = .fault (.coreFaulted e)) : stepReport s = (s, .err e) := by
  simp only [stepReport, h]

/-- A step that reports cycles has a next state, and reports the increase of the counter (R310). -/
theorem step_of_stepReport_ok {n : Nat} (h : stepReport s = (t, .ok n)) :
    step s = .next t ∧ n = t.cycleCount - s.cycleCount := by
  cases hstep : step s with
  | next u =>
    by_cases hu : ∃ e, u.mode = .faulted e
    · obtain ⟨e, he⟩ := hu
      rw [stepReport_of_faulted hstep he] at h
      cases h
    · rw [stepReport_of_not_faulted hstep (not_exists.mp hu)] at h
      cases h
      exact ⟨rfl, rfl⟩
  | fault r => simp [stepReport, hstep] at h
  | refused r => simp [stepReport, hstep] at h

end

/-! ### Outside Running -/

theorem step_idle {s : State} (hs : s.mode = .halted ∨ s.mode = .stopped) : step s = .next s.idle := by
  obtain hs | hs := hs <;> simp only [step, hs]

/-- Settles O10: the step is the idle cycle, which ends in no error. -/
theorem haltedStepIdles : Obligations.HaltedStepIdles := by
  intro s hs
  have hstep := step_idle hs
  refine ⟨s.idle, hstep, ?_, s.idle_eq⟩
  rw [stepReport_of_not_faulted hstep (State.idle_not_faulted hs), State.idle_eq, Nat.add_sub_cancel_left]

theorem runFor_of_not_running {s : State} (hs : s.mode ≠ .running) (n : Nat) : runFor n s = s := by
  cases n with
  | zero => rfl
  | succ n =>
    rw [runFor]
    cases hm : s.mode with
    | running => exact absurd hm hs
    | halted | stopped | faulted e => rfl

theorem runFor_succ_of_running {s : State} (hs : s.mode = .running) (n : Nat) :
    runFor (n + 1) s = runFor n (stepReport s).1 := by
  simp only [runFor, hs]

/-- A run of `n + m` steps is one of `n` steps and then one of `m`. -/
theorem runFor_add (n m : Nat) (s : State) : runFor (n + m) s = runFor m (runFor n s) := by
  induction n generalizing s with
  | zero => rw [Nat.zero_add]; rfl
  | succ n ih =>
    by_cases hs : s.mode = .running
    · rw [Nat.succ_add, runFor_succ_of_running hs, runFor_succ_of_running hs, ih]
    · simp only [runFor_of_not_running hs]

/-- Settles O14: the further steps are a run that starts outside Running. -/
theorem runStopsOutsideRunning : Obligations.RunStopsOutsideRunning := fun s m n hs => by
  rw [runFor_add, runFor_of_not_running hs]

/-- Settles O11: a faulted core makes no step, and no run leaves it. -/
theorem faultedStepReturnsError : Obligations.FaultedStepReturnsError := by
  intro s e hs
  have hstep : step s = .fault (.coreFaulted e) := by simp only [step, hs]
  exact ⟨hstep, stepReport_of_fault hstep, by simp [State.endedWell, hs], by simp only [State.endedBadly, hs],
    runFor_of_not_running (by simp [hs])⟩

/-! ### Running -/

theorem exists_row_of_mem_illegalBytes {op : Byte} (h : op ∈ illegalBytes) : ∃ i, (i, op) ∈ Row.illegal := by
  obtain ⟨⟨i, _⟩, hrow, rfl⟩ := List.mem_map.mp h
  exact ⟨i, hrow⟩

/-- Settles O12: an illegal byte is an encoding by itself, and its row raises the error in the state fetched. -/
theorem illegalStepFaults : Obligations.IllegalStepFaults := by
  intro s op hs hop hanswer
  obtain ⟨i, hrow⟩ := exists_row_of_mem_illegalBytes hop
  obtain ⟨hi, hencode⟩ : i.wellFormed = true ∧ encode i = [op] := illegal_row _ hrow
  have hreads : busReads s.bus s.pc (encode i).length = (encode i, (s.bus.read s.pc).2) := by
    rw [hencode, ← hanswer]
    rfl
  have hbus : (s.bus.read s.pc).2 = { s.bus with trace := .read s.pc op :: s.bus.trace } := by
    rw [Bus.read_snd, ← hanswer]
    rfl
  have hstep : step s = .next (State.raise
      { s with pc := s.pc + 1, cycleCount := s.cycleCount + 4
               bus := { s.bus with trace := .read s.pc op :: s.bus.trace } } (.illegalOpcode op s.pc)) := by
    rw [stepRunsDecodedInstruction s i _ hs hi hreads, exec_illegal hrow, hencode, hbus, State.raiseIllegal]
    simp
  exact ⟨_, hstep, stepReport_of_faulted hstep rfl, rfl⟩

theorem State.fetchInstr_f (s : State) : s.fetchInstr.2.f = s.f := by
  obtain ⟨accesses, heq, -⟩ := s.fetchInstr_snd
  rw [heq]

theorem State.fetchInstr_cycleCount_of_decode {s : State} {i : Instr} (h : decode s.fetchInstr.1 = .ok (i, [])) :
    s.fetchInstr.2.cycleCount = s.cycleCount + 4 * i.length := by
  obtain ⟨accesses, heq, -⟩ := s.fetchInstr_snd
  rw [heq, ← encode_length, ← encode_of_decode h, List.append_nil]

/-- A condition tests the flags alone. -/
theorem holds_congr {s t : State} (hf : t.f = s.f) (cc : Cond) : Holds t cc ↔ Holds s cc := by
  cases cc <;> simp only [Holds, hf]

theorem tableTotal_congr {s t : State} (hf : t.f = s.f) (i : Instr) (total : Nat) :
    TableTotal i t total ↔ TableTotal i s total := by
  simp only [TableTotal, holds_congr hf]

/-- A running step spends the table's total for the instruction it decodes, in the flags it starts with. -/
theorem step_spends_tableTotal {s t : State} (hs : s.mode = .running) (h : step s = .next t) :
    ∃ i total, decode s.fetchInstr.1 = .ok (i, []) ∧ TableTotal i s total ∧ t.cycleCount = s.cycleCount + total := by
  obtain ⟨-, i, hdecode, hexec⟩ | ⟨hidle, -⟩ := step_cases h
  · obtain ⟨u, n, k, hu, ⟨-, -, -, hcycles⟩, -, htotal⟩ := chargesTable (wellFormed_of_decode hdecode) s.fetchInstr.2
    obtain rfl := Host.Outcome.next.inj (hu.symm.trans hexec)
    refine ⟨i, _, hdecode, (tableTotal_congr s.fetchInstr_f i _).mp htotal, ?_⟩
    rw [hcycles, State.fetchInstr_cycleCount_of_decode hdecode]
    omega
  · simp [hs] at hidle

/-- Settles O13: the report is the counter's increase, which is the fetch and what the instruction spends. -/
theorem stepReportsTableCycles : Obligations.StepReportsTableCycles := by
  intro s t n hs hreport
  obtain ⟨hstep, rfl⟩ := step_of_stepReport_ok hreport
  obtain ⟨i, total, hdecode, ⟨cost, hcost, htaken, hnotTaken⟩, hcycles⟩ := step_spends_tableTotal hs hstep
  rw [hcycles, Nat.add_sub_cancel_left]
  exact ⟨rfl, i, cost, hdecode, hcost, htaken, hnotTaken⟩

end Sys2Proof.Machine
end
